-- ==== Sys2Proof/Word.lean ====
section
/-! DEFINITION. The two word widths of the machine (00_scope.md R5: XLEN8 and XLEN16). -/

namespace Sys2Proof

/-- An 8-bit value: A, F, B, C, D, E, H, L, a byte of memory (00_scope.md R5). -/
abbrev Byte := BitVec 8

/-- A 16-bit value: AF, BC, DE, HL, SP, PC, an address (00_scope.md R5). -/
abbrev Word := BitVec 16

end Sys2Proof
end

