-- ==== Sys2Proof/Config.lean ====
section
/-! DEFINITION. What one machine fixes: the parameters of 00_scope.md R5 at the spec's defaults, the reset values of
70_reset_and_hazards.md R520 (`ResetConfig`), and the one free value, the host's wall clock. -/

namespace Sys2Proof

/-- ILLEGAL_OPCODE_POLICY (00_scope.md R5, D7). -/
inductive IllegalOpcodePolicy where
  | fault | nop
  deriving DecidableEq, Repr

namespace Config

/-- The policy this hardware takes (47_system.md R330: `fault` is the default). -/
def illegalOpcodePolicy : IllegalOpcodePolicy := .fault

/-- Ticks per M-cycle (00_scope.md R5, R14). -/
def ticksPerMCycle : Nat := 4

/-- TICK_PHASE: the CPU steps in the tick whose incremented counter is this mod 4 (20_memory.md R100, D1). -/
def tickPhase : Nat := 0

/-- INT_DISPATCH_MCYCLES (60_exceptions.md R343, D5). -/
def intDispatchMCycles : Nat := 5

/-- The CB prefix byte (30_encoding.md R120, D45). -/
def cbPrefix : Byte := 0xCB

/-- FREE VALUE (log entry 5). The host's answer to the k-th `HostClockSeconds()` draw, a natural number of seconds
(63_cartridge_mbc.md R502, OPEN-2): the spec fixes neither its epoch nor its relation to ticks. -/
opaque hostClockSeconds : Nat → Nat

/-- `ShadeToRGBA` (62_ppu.md R445, D31): bytes R, G, B, A from the most significant. Host-facing only. -/
def shadeToRGBA (shade : BitVec 2) : BitVec 32 :=
  match shade.toNat with
  | 0 => 0xFFFFFFFF
  | 1 => 0xAAAAAAFF
  | 2 => 0x555555FF
  | _ => 0x000000FF

/-! `ResetConfig` (70_reset_and_hazards.md R520; log entry 4). -/

def resetA : Byte := 0x01
def resetF : Byte := 0xB0
def resetB : Byte := 0x00
def resetC : Byte := 0x13
def resetD : Byte := 0x00
def resetE : Byte := 0xD8
def resetH : Byte := 0x01
def resetL : Byte := 0x4D
def resetSP : Word := 0xFFFE
def resetPC : Word := 0x0100
def resetIE : Byte := 0x00
def resetIF : BitVec 5 := 0b00001
def resetSB : Byte := 0x00
def resetSC : Byte := 0x7E
def resetDiv16 : Word := 0xABCC
def resetTIMA : Byte := 0x00
def resetTMA : Byte := 0x00
def resetTAC : BitVec 3 := 0b000
def resetDmaPage : Byte := 0xFF
def resetLCDC : Byte := 0x91
def resetBGP : Byte := 0xFC
def resetOBP0 : Byte := 0xFF
def resetOBP1 : Byte := 0xFF
def resetJoypSelect : BitVec 2 := 0b00

end Config

end Sys2Proof
end

