-- ==== Sys2Proof/Syntax.lean ====
section
/-! DEFINITION. The instructions as syntax: one constructor for each row of spec/opcode_table.json, and the selector names the
spec's rules use (30_encoding.md R122, R123): registers, pairs, conditions, operations, three-bit indices. The namespace
`Fam` names the families of constructors that one rule of the spec covers (`LD r,r'` is `Fam.ldRegReg dst src`). -/

namespace Sys2Proof

/-- An instruction. A constructor is its row's mnemonic: `iHL` stands for `(HL)`, `iHLp` and `iHLm` for `(HL+)` and `(HL-)`,
`inn` for `(nn)`, `iC` for `(C)`; `n`, `e`, `nn` are the immediates of 30_encoding.md R125 (`e` the raw byte read as signed).
The rows with operands come first, the others follow in the table's order (Lean's compiler bounds the tag of a constructor that
has fields). -/
inductive Instr where
  | ld_BC_nn (nn : Word)
  | ld_B_n (n : Byte)
  | ld_inn_SP (nn : Word)
  | ld_C_n (n : Byte)
  | stop (n : Byte)
  | ld_DE_nn (nn : Word)
  | ld_D_n (n : Byte)
  | jr_e (e : Byte)
  | ld_E_n (n : Byte)
  | jr_NZ_e (e : Byte)
  | ld_HL_nn (nn : Word)
  | ld_H_n (n : Byte)
  | jr_Z_e (e : Byte)
  | ld_L_n (n : Byte)
  | jr_NC_e (e : Byte)
  | ld_SP_nn (nn : Word)
  | ld_iHL_n (n : Byte)
  | jr_C_e (e : Byte)
  | ld_A_n (n : Byte)
  | jp_NZ_nn (nn : Word)
  | jp_nn (nn : Word)
  | call_NZ_nn (nn : Word)
  | add_A_n (n : Byte)
  | jp_Z_nn (nn : Word)
  | prefix_CB (op2 : Byte)
  | call_Z_nn (nn : Word)
  | call_nn (nn : Word)
  | adc_A_n (n : Byte)
  | jp_NC_nn (nn : Word)
  | call_NC_nn (nn : Word)
  | sub_n (n : Byte)
  | jp_C_nn (nn : Word)
  | call_C_nn (nn : Word)
  | sbc_A_n (n : Byte)
  | ldh_n_A (n : Byte)
  | and_n (n : Byte)
  | add_SP_e (e : Byte)
  | ld_inn_A (nn : Word)
  | xor_n (n : Byte)
  | ldh_A_n (n : Byte)
  | or_n (n : Byte)
  | ld_HL_SPe (e : Byte)
  | ld_A_inn (nn : Word)
  | cp_n (n : Byte)
  | nop
  | ld_iBC_A
  | inc_BC
  | inc_B
  | dec_B
  | rlca
  | add_HL_BC
  | ld_A_iBC
  | dec_BC
  | inc_C
  | dec_C
  | rrca
  | ld_iDE_A
  | inc_DE
  | inc_D
  | dec_D
  | rla
  | add_HL_DE
  | ld_A_iDE
  | dec_DE
  | inc_E
  | dec_E
  | rra
  | ld_iHLp_A
  | inc_HL
  | inc_H
  | dec_H
  | daa
  | add_HL_HL
  | ld_A_iHLp
  | dec_HL
  | inc_L
  | dec_L
  | cpl
  | ld_iHLm_A
  | inc_SP
  | inc_iHL
  | dec_iHL
  | scf
  | add_HL_SP
  | ld_A_iHLm
  | dec_SP
  | inc_A
  | dec_A
  | ccf
  | ld_B_B
  | ld_B_C
  | ld_B_D
  | ld_B_E
  | ld_B_H
  | ld_B_L
  | ld_B_iHL
  | ld_B_A
  | ld_C_B
  | ld_C_C
  | ld_C_D
  | ld_C_E
  | ld_C_H
  | ld_C_L
  | ld_C_iHL
  | ld_C_A
  | ld_D_B
  | ld_D_C
  | ld_D_D
  | ld_D_E
  | ld_D_H
  | ld_D_L
  | ld_D_iHL
  | ld_D_A
  | ld_E_B
  | ld_E_C
  | ld_E_D
  | ld_E_E
  | ld_E_H
  | ld_E_L
  | ld_E_iHL
  | ld_E_A
  | ld_H_B
  | ld_H_C
  | ld_H_D
  | ld_H_E
  | ld_H_H
  | ld_H_L
  | ld_H_iHL
  | ld_H_A
  | ld_L_B
  | ld_L_C
  | ld_L_D
  | ld_L_E
  | ld_L_H
  | ld_L_L
  | ld_L_iHL
  | ld_L_A
  | ld_iHL_B
  | ld_iHL_C
  | ld_iHL_D
  | ld_iHL_E
  | ld_iHL_H
  | ld_iHL_L
  | halt
  | ld_iHL_A
  | ld_A_B
  | ld_A_C
  | ld_A_D
  | ld_A_E
  | ld_A_H
  | ld_A_L
  | ld_A_iHL
  | ld_A_A
  | add_A_B
  | add_A_C
  | add_A_D
  | add_A_E
  | add_A_H
  | add_A_L
  | add_A_iHL
  | add_A_A
  | adc_A_B
  | adc_A_C
  | adc_A_D
  | adc_A_E
  | adc_A_H
  | adc_A_L
  | adc_A_iHL
  | adc_A_A
  | sub_B
  | sub_C
  | sub_D
  | sub_E
  | sub_H
  | sub_L
  | sub_iHL
  | sub_A
  | sbc_A_B
  | sbc_A_C
  | sbc_A_D
  | sbc_A_E
  | sbc_A_H
  | sbc_A_L
  | sbc_A_iHL
  | sbc_A_A
  | and_B
  | and_C
  | and_D
  | and_E
  | and_H
  | and_L
  | and_iHL
  | and_A
  | xor_B
  | xor_C
  | xor_D
  | xor_E
  | xor_H
  | xor_L
  | xor_iHL
  | xor_A
  | or_B
  | or_C
  | or_D
  | or_E
  | or_H
  | or_L
  | or_iHL
  | or_A
  | cp_B
  | cp_C
  | cp_D
  | cp_E
  | cp_H
  | cp_L
  | cp_iHL
  | cp_A
  | ret_NZ
  | pop_BC
  | push_BC
  | rst_00H
  | ret_Z
  | ret
  | rst_08H
  | ret_NC
  | pop_DE
  | illegal_D3
  | push_DE
  | rst_10H
  | ret_C
  | reti
  | illegal_DB
  | illegal_DD
  | rst_18H
  | pop_HL
  | ld_iC_A
  | illegal_E3
  | illegal_E4
  | push_HL
  | rst_20H
  | jp_HL
  | illegal_EB
  | illegal_EC
  | illegal_ED
  | rst_28H
  | pop_AF
  | ld_A_iC
  | di
  | illegal_F4
  | push_AF
  | rst_30H
  | ld_SP_HL
  | ei
  | illegal_FC
  | illegal_FD
  | rst_38H
  | rlc_B
  | rlc_C
  | rlc_D
  | rlc_E
  | rlc_H
  | rlc_L
  | rlc_iHL
  | rlc_A
  | rrc_B
  | rrc_C
  | rrc_D
  | rrc_E
  | rrc_H
  | rrc_L
  | rrc_iHL
  | rrc_A
  | rl_B
  | rl_C
  | rl_D
  | rl_E
  | rl_H
  | rl_L
  | rl_iHL
  | rl_A
  | rr_B
  | rr_C
  | rr_D
  | rr_E
  | rr_H
  | rr_L
  | rr_iHL
  | rr_A
  | sla_B
  | sla_C
  | sla_D
  | sla_E
  | sla_H
  | sla_L
  | sla_iHL
  | sla_A
  | sra_B
  | sra_C
  | sra_D
  | sra_E
  | sra_H
  | sra_L
  | sra_iHL
  | sra_A
  | swap_B
  | swap_C
  | swap_D
  | swap_E
  | swap_H
  | swap_L
  | swap_iHL
  | swap_A
  | srl_B
  | srl_C
  | srl_D
  | srl_E
  | srl_H
  | srl_L
  | srl_iHL
  | srl_A
  | bit_0_B
  | bit_0_C
  | bit_0_D
  | bit_0_E
  | bit_0_H
  | bit_0_L
  | bit_0_iHL
  | bit_0_A
  | bit_1_B
  | bit_1_C
  | bit_1_D
  | bit_1_E
  | bit_1_H
  | bit_1_L
  | bit_1_iHL
  | bit_1_A
  | bit_2_B
  | bit_2_C
  | bit_2_D
  | bit_2_E
  | bit_2_H
  | bit_2_L
  | bit_2_iHL
  | bit_2_A
  | bit_3_B
  | bit_3_C
  | bit_3_D
  | bit_3_E
  | bit_3_H
  | bit_3_L
  | bit_3_iHL
  | bit_3_A
  | bit_4_B
  | bit_4_C
  | bit_4_D
  | bit_4_E
  | bit_4_H
  | bit_4_L
  | bit_4_iHL
  | bit_4_A
  | bit_5_B
  | bit_5_C
  | bit_5_D
  | bit_5_E
  | bit_5_H
  | bit_5_L
  | bit_5_iHL
  | bit_5_A
  | bit_6_B
  | bit_6_C
  | bit_6_D
  | bit_6_E
  | bit_6_H
  | bit_6_L
  | bit_6_iHL
  | bit_6_A
  | bit_7_B
  | bit_7_C
  | bit_7_D
  | bit_7_E
  | bit_7_H
  | bit_7_L
  | bit_7_iHL
  | bit_7_A
  | res_0_B
  | res_0_C
  | res_0_D
  | res_0_E
  | res_0_H
  | res_0_L
  | res_0_iHL
  | res_0_A
  | res_1_B
  | res_1_C
  | res_1_D
  | res_1_E
  | res_1_H
  | res_1_L
  | res_1_iHL
  | res_1_A
  | res_2_B
  | res_2_C
  | res_2_D
  | res_2_E
  | res_2_H
  | res_2_L
  | res_2_iHL
  | res_2_A
  | res_3_B
  | res_3_C
  | res_3_D
  | res_3_E
  | res_3_H
  | res_3_L
  | res_3_iHL
  | res_3_A
  | res_4_B
  | res_4_C
  | res_4_D
  | res_4_E
  | res_4_H
  | res_4_L
  | res_4_iHL
  | res_4_A
  | res_5_B
  | res_5_C
  | res_5_D
  | res_5_E
  | res_5_H
  | res_5_L
  | res_5_iHL
  | res_5_A
  | res_6_B
  | res_6_C
  | res_6_D
  | res_6_E
  | res_6_H
  | res_6_L
  | res_6_iHL
  | res_6_A
  | res_7_B
  | res_7_C
  | res_7_D
  | res_7_E
  | res_7_H
  | res_7_L
  | res_7_iHL
  | res_7_A
  | set_0_B
  | set_0_C
  | set_0_D
  | set_0_E
  | set_0_H
  | set_0_L
  | set_0_iHL
  | set_0_A
  | set_1_B
  | set_1_C
  | set_1_D
  | set_1_E
  | set_1_H
  | set_1_L
  | set_1_iHL
  | set_1_A
  | set_2_B
  | set_2_C
  | set_2_D
  | set_2_E
  | set_2_H
  | set_2_L
  | set_2_iHL
  | set_2_A
  | set_3_B
  | set_3_C
  | set_3_D
  | set_3_E
  | set_3_H
  | set_3_L
  | set_3_iHL
  | set_3_A
  | set_4_B
  | set_4_C
  | set_4_D
  | set_4_E
  | set_4_H
  | set_4_L
  | set_4_iHL
  | set_4_A
  | set_5_B
  | set_5_C
  | set_5_D
  | set_5_E
  | set_5_H
  | set_5_L
  | set_5_iHL
  | set_5_A
  | set_6_B
  | set_6_C
  | set_6_D
  | set_6_E
  | set_6_H
  | set_6_L
  | set_6_iHL
  | set_6_A
  | set_7_B
  | set_7_C
  | set_7_D
  | set_7_E
  | set_7_H
  | set_7_L
  | set_7_iHL
  | set_7_A
  deriving DecidableEq, Repr

/-- The seven 8-bit registers an encoding field `r8` can select (R123; index 6 is `(HL)`, not a register). -/
inductive R8 where
  | b | c | d | e | h | l | a
  deriving DecidableEq, Repr

/-- The pairs of `r16` (R123). -/
inductive R16 where
  | bc | de | hl | sp
  deriving DecidableEq, Repr

/-- The pairs of `r16stk` (R123). -/
inductive R16Stk where
  | bc | de | hl | af
  deriving DecidableEq, Repr

/-- The conditions of `cc` (R123). -/
inductive Cond where
  | nz | z | nc | c
  deriving DecidableEq, Repr

/-- The ALU operations of `alu[y]` (R123). -/
inductive AluOp where
  | add | adc | sub | sbc | and | xor | or | cp
  deriving DecidableEq, Repr

/-- The rotate and shift operations of `rot[y]` (R123). -/
inductive RotOp where
  | rlc | rrc | rl | rr | sla | sra | swap | srl
  deriving DecidableEq, Repr

/-- A three-bit field (`y` or `z` of R122): a bit number, an RST index, a column. -/
inductive Oct where
  | o0 | o1 | o2 | o3 | o4 | o5 | o6 | o7
  deriving DecidableEq, Repr

/-- A two-bit field (`x` or `p` of R122). -/
inductive Quad where
  | q0 | q1 | q2 | q3
  deriving DecidableEq, Repr

/-- The eleven unassigned opcodes (R133). -/
inductive Unassigned where
  | xD3 | xDB | xDD | xE3 | xE4 | xEB | xEC | xED | xF4 | xFC | xFD
  deriving DecidableEq, Repr

namespace Fam

/-- `LD r,r'` (R151). -/
def ldRegReg (dst : R8) (src : R8) : Instr :=
  match dst, src with
  | .b, .b => .ld_B_B
  | .b, .c => .ld_B_C
  | .b, .d => .ld_B_D
  | .b, .e => .ld_B_E
  | .b, .h => .ld_B_H
  | .b, .l => .ld_B_L
  | .b, .a => .ld_B_A
  | .c, .b => .ld_C_B
  | .c, .c => .ld_C_C
  | .c, .d => .ld_C_D
  | .c, .e => .ld_C_E
  | .c, .h => .ld_C_H
  | .c, .l => .ld_C_L
  | .c, .a => .ld_C_A
  | .d, .b => .ld_D_B
  | .d, .c => .ld_D_C
  | .d, .d => .ld_D_D
  | .d, .e => .ld_D_E
  | .d, .h => .ld_D_H
  | .d, .l => .ld_D_L
  | .d, .a => .ld_D_A
  | .e, .b => .ld_E_B
  | .e, .c => .ld_E_C
  | .e, .d => .ld_E_D
  | .e, .e => .ld_E_E
  | .e, .h => .ld_E_H
  | .e, .l => .ld_E_L
  | .e, .a => .ld_E_A
  | .h, .b => .ld_H_B
  | .h, .c => .ld_H_C
  | .h, .d => .ld_H_D
  | .h, .e => .ld_H_E
  | .h, .h => .ld_H_H
  | .h, .l => .ld_H_L
  | .h, .a => .ld_H_A
  | .l, .b => .ld_L_B
  | .l, .c => .ld_L_C
  | .l, .d => .ld_L_D
  | .l, .e => .ld_L_E
  | .l, .h => .ld_L_H
  | .l, .l => .ld_L_L
  | .l, .a => .ld_L_A
  | .a, .b => .ld_A_B
  | .a, .c => .ld_A_C
  | .a, .d => .ld_A_D
  | .a, .e => .ld_A_E
  | .a, .h => .ld_A_H
  | .a, .l => .ld_A_L
  | .a, .a => .ld_A_A

/-- `LD r,n` (R152). -/
def ldRegImm (dst : R8) (n : Byte) : Instr :=
  match dst with
  | .b => .ld_B_n n
  | .c => .ld_C_n n
  | .d => .ld_D_n n
  | .e => .ld_E_n n
  | .h => .ld_H_n n
  | .l => .ld_L_n n
  | .a => .ld_A_n n

/-- `LD r,(HL)` (R153). -/
def ldRegInd (dst : R8) : Instr :=
  match dst with
  | .b => .ld_B_iHL
  | .c => .ld_C_iHL
  | .d => .ld_D_iHL
  | .e => .ld_E_iHL
  | .h => .ld_H_iHL
  | .l => .ld_L_iHL
  | .a => .ld_A_iHL

/-- `LD (HL),r` (R154). -/
def ldIndReg (src : R8) : Instr :=
  match src with
  | .b => .ld_iHL_B
  | .c => .ld_iHL_C
  | .d => .ld_iHL_D
  | .e => .ld_iHL_E
  | .h => .ld_iHL_H
  | .l => .ld_iHL_L
  | .a => .ld_iHL_A

/-- `alu[y] A,r` (R201, R204, R207, R210, R213, R216, R219, R222). -/
def aluReg (op : AluOp) (r : R8) : Instr :=
  match op, r with
  | .add, .b => .add_A_B
  | .add, .c => .add_A_C
  | .add, .d => .add_A_D
  | .add, .e => .add_A_E
  | .add, .h => .add_A_H
  | .add, .l => .add_A_L
  | .add, .a => .add_A_A
  | .adc, .b => .adc_A_B
  | .adc, .c => .adc_A_C
  | .adc, .d => .adc_A_D
  | .adc, .e => .adc_A_E
  | .adc, .h => .adc_A_H
  | .adc, .l => .adc_A_L
  | .adc, .a => .adc_A_A
  | .sub, .b => .sub_B
  | .sub, .c => .sub_C
  | .sub, .d => .sub_D
  | .sub, .e => .sub_E
  | .sub, .h => .sub_H
  | .sub, .l => .sub_L
  | .sub, .a => .sub_A
  | .sbc, .b => .sbc_A_B
  | .sbc, .c => .sbc_A_C
  | .sbc, .d => .sbc_A_D
  | .sbc, .e => .sbc_A_E
  | .sbc, .h => .sbc_A_H
  | .sbc, .l => .sbc_A_L
  | .sbc, .a => .sbc_A_A
  | .and, .b => .and_B
  | .and, .c => .and_C
  | .and, .d => .and_D
  | .and, .e => .and_E
  | .and, .h => .and_H
  | .and, .l => .and_L
  | .and, .a => .and_A
  | .xor, .b => .xor_B
  | .xor, .c => .xor_C
  | .xor, .d => .xor_D
  | .xor, .e => .xor_E
  | .xor, .h => .xor_H
  | .xor, .l => .xor_L
  | .xor, .a => .xor_A
  | .or, .b => .or_B
  | .or, .c => .or_C
  | .or, .d => .or_D
  | .or, .e => .or_E
  | .or, .h => .or_H
  | .or, .l => .or_L
  | .or, .a => .or_A
  | .cp, .b => .cp_B
  | .cp, .c => .cp_C
  | .cp, .d => .cp_D
  | .cp, .e => .cp_E
  | .cp, .h => .cp_H
  | .cp, .l => .cp_L
  | .cp, .a => .cp_A

/-- `alu[y] A,(HL)` (R202, R205, R208, R211, R214, R217, R220, R223). -/
def aluInd (op : AluOp) : Instr :=
  match op with
  | .add => .add_A_iHL
  | .adc => .adc_A_iHL
  | .sub => .sub_iHL
  | .sbc => .sbc_A_iHL
  | .and => .and_iHL
  | .xor => .xor_iHL
  | .or => .or_iHL
  | .cp => .cp_iHL

/-- `alu[y] A,n` (R203, R206, R209, R212, R215, R218, R221, R224). -/
def aluImm (op : AluOp) (n : Byte) : Instr :=
  match op with
  | .add => .add_A_n n
  | .adc => .adc_A_n n
  | .sub => .sub_n n
  | .sbc => .sbc_A_n n
  | .and => .and_n n
  | .xor => .xor_n n
  | .or => .or_n n
  | .cp => .cp_n n

/-- `INC r` (R225). -/
def incReg (r : R8) : Instr :=
  match r with
  | .b => .inc_B
  | .c => .inc_C
  | .d => .inc_D
  | .e => .inc_E
  | .h => .inc_H
  | .l => .inc_L
  | .a => .inc_A

/-- `DEC r` (R227). -/
def decReg (r : R8) : Instr :=
  match r with
  | .b => .dec_B
  | .c => .dec_C
  | .d => .dec_D
  | .e => .dec_E
  | .h => .dec_H
  | .l => .dec_L
  | .a => .dec_A

/-- `LD rr,nn` (R181). -/
def ldPairImm (p : R16) (nn : Word) : Instr :=
  match p with
  | .bc => .ld_BC_nn nn
  | .de => .ld_DE_nn nn
  | .hl => .ld_HL_nn nn
  | .sp => .ld_SP_nn nn

/-- `ADD HL,rr` (R241). -/
def addHl (p : R16) : Instr :=
  match p with
  | .bc => .add_HL_BC
  | .de => .add_HL_DE
  | .hl => .add_HL_HL
  | .sp => .add_HL_SP

/-- `INC rr` (R242). -/
def incPair (p : R16) : Instr :=
  match p with
  | .bc => .inc_BC
  | .de => .inc_DE
  | .hl => .inc_HL
  | .sp => .inc_SP

/-- `DEC rr` (R243). -/
def decPair (p : R16) : Instr :=
  match p with
  | .bc => .dec_BC
  | .de => .dec_DE
  | .hl => .dec_HL
  | .sp => .dec_SP

/-- `PUSH rr` (R185). -/
def push (p : R16Stk) : Instr :=
  match p with
  | .bc => .push_BC
  | .de => .push_DE
  | .hl => .push_HL
  | .af => .push_AF

/-- `POP rr` (R186) and `POP AF` (R187). -/
def pop (p : R16Stk) : Instr :=
  match p with
  | .bc => .pop_BC
  | .de => .pop_DE
  | .hl => .pop_HL
  | .af => .pop_AF

/-- `JP cc,nn` (R302). -/
def jpCond (k : Cond) (nn : Word) : Instr :=
  match k with
  | .nz => .jp_NZ_nn nn
  | .z => .jp_Z_nn nn
  | .nc => .jp_NC_nn nn
  | .c => .jp_C_nn nn

/-- `JR cc,e` (R305). -/
def jrCond (k : Cond) (e : Byte) : Instr :=
  match k with
  | .nz => .jr_NZ_e e
  | .z => .jr_Z_e e
  | .nc => .jr_NC_e e
  | .c => .jr_C_e e

/-- `CALL cc,nn` (R307). -/
def callCond (k : Cond) (nn : Word) : Instr :=
  match k with
  | .nz => .call_NZ_nn nn
  | .z => .call_Z_nn nn
  | .nc => .call_NC_nn nn
  | .c => .call_C_nn nn

/-- `RET cc` (R309). -/
def retCond (k : Cond) : Instr :=
  match k with
  | .nz => .ret_NZ
  | .z => .ret_Z
  | .nc => .ret_NC
  | .c => .ret_C

/-- `RST t` with t = 8 × y (R312). -/
def rst (y : Oct) : Instr :=
  match y with
  | .o0 => .rst_00H
  | .o1 => .rst_08H
  | .o2 => .rst_10H
  | .o3 => .rst_18H
  | .o4 => .rst_20H
  | .o5 => .rst_28H
  | .o6 => .rst_30H
  | .o7 => .rst_38H

/-- The unassigned opcodes (R330). -/
def illegal (u : Unassigned) : Instr :=
  match u with
  | .xD3 => .illegal_D3
  | .xDB => .illegal_DB
  | .xDD => .illegal_DD
  | .xE3 => .illegal_E3
  | .xE4 => .illegal_E4
  | .xEB => .illegal_EB
  | .xEC => .illegal_EC
  | .xED => .illegal_ED
  | .xF4 => .illegal_F4
  | .xFC => .illegal_FC
  | .xFD => .illegal_FD

/-- `rot[y] r` (R271 to R285, odd). -/
def rotReg (op : RotOp) (r : R8) : Instr :=
  match op, r with
  | .rlc, .b => .rlc_B
  | .rlc, .c => .rlc_C
  | .rlc, .d => .rlc_D
  | .rlc, .e => .rlc_E
  | .rlc, .h => .rlc_H
  | .rlc, .l => .rlc_L
  | .rlc, .a => .rlc_A
  | .rrc, .b => .rrc_B
  | .rrc, .c => .rrc_C
  | .rrc, .d => .rrc_D
  | .rrc, .e => .rrc_E
  | .rrc, .h => .rrc_H
  | .rrc, .l => .rrc_L
  | .rrc, .a => .rrc_A
  | .rl, .b => .rl_B
  | .rl, .c => .rl_C
  | .rl, .d => .rl_D
  | .rl, .e => .rl_E
  | .rl, .h => .rl_H
  | .rl, .l => .rl_L
  | .rl, .a => .rl_A
  | .rr, .b => .rr_B
  | .rr, .c => .rr_C
  | .rr, .d => .rr_D
  | .rr, .e => .rr_E
  | .rr, .h => .rr_H
  | .rr, .l => .rr_L
  | .rr, .a => .rr_A
  | .sla, .b => .sla_B
  | .sla, .c => .sla_C
  | .sla, .d => .sla_D
  | .sla, .e => .sla_E
  | .sla, .h => .sla_H
  | .sla, .l => .sla_L
  | .sla, .a => .sla_A
  | .sra, .b => .sra_B
  | .sra, .c => .sra_C
  | .sra, .d => .sra_D
  | .sra, .e => .sra_E
  | .sra, .h => .sra_H
  | .sra, .l => .sra_L
  | .sra, .a => .sra_A
  | .swap, .b => .swap_B
  | .swap, .c => .swap_C
  | .swap, .d => .swap_D
  | .swap, .e => .swap_E
  | .swap, .h => .swap_H
  | .swap, .l => .swap_L
  | .swap, .a => .swap_A
  | .srl, .b => .srl_B
  | .srl, .c => .srl_C
  | .srl, .d => .srl_D
  | .srl, .e => .srl_E
  | .srl, .h => .srl_H
  | .srl, .l => .srl_L
  | .srl, .a => .srl_A

/-- `rot[y] (HL)` (R272 to R286, even). -/
def rotInd (op : RotOp) : Instr :=
  match op with
  | .rlc => .rlc_iHL
  | .rrc => .rrc_iHL
  | .rl => .rl_iHL
  | .rr => .rr_iHL
  | .sla => .sla_iHL
  | .sra => .sra_iHL
  | .swap => .swap_iHL
  | .srl => .srl_iHL

/-- `BIT b,r` (R287). -/
def bitReg (b : Oct) (r : R8) : Instr :=
  match b, r with
  | .o0, .b => .bit_0_B
  | .o0, .c => .bit_0_C
  | .o0, .d => .bit_0_D
  | .o0, .e => .bit_0_E
  | .o0, .h => .bit_0_H
  | .o0, .l => .bit_0_L
  | .o0, .a => .bit_0_A
  | .o1, .b => .bit_1_B
  | .o1, .c => .bit_1_C
  | .o1, .d => .bit_1_D
  | .o1, .e => .bit_1_E
  | .o1, .h => .bit_1_H
  | .o1, .l => .bit_1_L
  | .o1, .a => .bit_1_A
  | .o2, .b => .bit_2_B
  | .o2, .c => .bit_2_C
  | .o2, .d => .bit_2_D
  | .o2, .e => .bit_2_E
  | .o2, .h => .bit_2_H
  | .o2, .l => .bit_2_L
  | .o2, .a => .bit_2_A
  | .o3, .b => .bit_3_B
  | .o3, .c => .bit_3_C
  | .o3, .d => .bit_3_D
  | .o3, .e => .bit_3_E
  | .o3, .h => .bit_3_H
  | .o3, .l => .bit_3_L
  | .o3, .a => .bit_3_A
  | .o4, .b => .bit_4_B
  | .o4, .c => .bit_4_C
  | .o4, .d => .bit_4_D
  | .o4, .e => .bit_4_E
  | .o4, .h => .bit_4_H
  | .o4, .l => .bit_4_L
  | .o4, .a => .bit_4_A
  | .o5, .b => .bit_5_B
  | .o5, .c => .bit_5_C
  | .o5, .d => .bit_5_D
  | .o5, .e => .bit_5_E
  | .o5, .h => .bit_5_H
  | .o5, .l => .bit_5_L
  | .o5, .a => .bit_5_A
  | .o6, .b => .bit_6_B
  | .o6, .c => .bit_6_C
  | .o6, .d => .bit_6_D
  | .o6, .e => .bit_6_E
  | .o6, .h => .bit_6_H
  | .o6, .l => .bit_6_L
  | .o6, .a => .bit_6_A
  | .o7, .b => .bit_7_B
  | .o7, .c => .bit_7_C
  | .o7, .d => .bit_7_D
  | .o7, .e => .bit_7_E
  | .o7, .h => .bit_7_H
  | .o7, .l => .bit_7_L
  | .o7, .a => .bit_7_A

/-- `BIT b,(HL)` (R288). -/
def bitInd (b : Oct) : Instr :=
  match b with
  | .o0 => .bit_0_iHL
  | .o1 => .bit_1_iHL
  | .o2 => .bit_2_iHL
  | .o3 => .bit_3_iHL
  | .o4 => .bit_4_iHL
  | .o5 => .bit_5_iHL
  | .o6 => .bit_6_iHL
  | .o7 => .bit_7_iHL

/-- `RES b,r` (R289). -/
def resReg (b : Oct) (r : R8) : Instr :=
  match b, r with
  | .o0, .b => .res_0_B
  | .o0, .c => .res_0_C
  | .o0, .d => .res_0_D
  | .o0, .e => .res_0_E
  | .o0, .h => .res_0_H
  | .o0, .l => .res_0_L
  | .o0, .a => .res_0_A
  | .o1, .b => .res_1_B
  | .o1, .c => .res_1_C
  | .o1, .d => .res_1_D
  | .o1, .e => .res_1_E
  | .o1, .h => .res_1_H
  | .o1, .l => .res_1_L
  | .o1, .a => .res_1_A
  | .o2, .b => .res_2_B
  | .o2, .c => .res_2_C
  | .o2, .d => .res_2_D
  | .o2, .e => .res_2_E
  | .o2, .h => .res_2_H
  | .o2, .l => .res_2_L
  | .o2, .a => .res_2_A
  | .o3, .b => .res_3_B
  | .o3, .c => .res_3_C
  | .o3, .d => .res_3_D
  | .o3, .e => .res_3_E
  | .o3, .h => .res_3_H
  | .o3, .l => .res_3_L
  | .o3, .a => .res_3_A
  | .o4, .b => .res_4_B
  | .o4, .c => .res_4_C
  | .o4, .d => .res_4_D
  | .o4, .e => .res_4_E
  | .o4, .h => .res_4_H
  | .o4, .l => .res_4_L
  | .o4, .a => .res_4_A
  | .o5, .b => .res_5_B
  | .o5, .c => .res_5_C
  | .o5, .d => .res_5_D
  | .o5, .e => .res_5_E
  | .o5, .h => .res_5_H
  | .o5, .l => .res_5_L
  | .o5, .a => .res_5_A
  | .o6, .b => .res_6_B
  | .o6, .c => .res_6_C
  | .o6, .d => .res_6_D
  | .o6, .e => .res_6_E
  | .o6, .h => .res_6_H
  | .o6, .l => .res_6_L
  | .o6, .a => .res_6_A
  | .o7, .b => .res_7_B
  | .o7, .c => .res_7_C
  | .o7, .d => .res_7_D
  | .o7, .e => .res_7_E
  | .o7, .h => .res_7_H
  | .o7, .l => .res_7_L
  | .o7, .a => .res_7_A

/-- `RES b,(HL)` (R290). -/
def resInd (b : Oct) : Instr :=
  match b with
  | .o0 => .res_0_iHL
  | .o1 => .res_1_iHL
  | .o2 => .res_2_iHL
  | .o3 => .res_3_iHL
  | .o4 => .res_4_iHL
  | .o5 => .res_5_iHL
  | .o6 => .res_6_iHL
  | .o7 => .res_7_iHL

/-- `SET b,r` (R291). -/
def setReg (b : Oct) (r : R8) : Instr :=
  match b, r with
  | .o0, .b => .set_0_B
  | .o0, .c => .set_0_C
  | .o0, .d => .set_0_D
  | .o0, .e => .set_0_E
  | .o0, .h => .set_0_H
  | .o0, .l => .set_0_L
  | .o0, .a => .set_0_A
  | .o1, .b => .set_1_B
  | .o1, .c => .set_1_C
  | .o1, .d => .set_1_D
  | .o1, .e => .set_1_E
  | .o1, .h => .set_1_H
  | .o1, .l => .set_1_L
  | .o1, .a => .set_1_A
  | .o2, .b => .set_2_B
  | .o2, .c => .set_2_C
  | .o2, .d => .set_2_D
  | .o2, .e => .set_2_E
  | .o2, .h => .set_2_H
  | .o2, .l => .set_2_L
  | .o2, .a => .set_2_A
  | .o3, .b => .set_3_B
  | .o3, .c => .set_3_C
  | .o3, .d => .set_3_D
  | .o3, .e => .set_3_E
  | .o3, .h => .set_3_H
  | .o3, .l => .set_3_L
  | .o3, .a => .set_3_A
  | .o4, .b => .set_4_B
  | .o4, .c => .set_4_C
  | .o4, .d => .set_4_D
  | .o4, .e => .set_4_E
  | .o4, .h => .set_4_H
  | .o4, .l => .set_4_L
  | .o4, .a => .set_4_A
  | .o5, .b => .set_5_B
  | .o5, .c => .set_5_C
  | .o5, .d => .set_5_D
  | .o5, .e => .set_5_E
  | .o5, .h => .set_5_H
  | .o5, .l => .set_5_L
  | .o5, .a => .set_5_A
  | .o6, .b => .set_6_B
  | .o6, .c => .set_6_C
  | .o6, .d => .set_6_D
  | .o6, .e => .set_6_E
  | .o6, .h => .set_6_H
  | .o6, .l => .set_6_L
  | .o6, .a => .set_6_A
  | .o7, .b => .set_7_B
  | .o7, .c => .set_7_C
  | .o7, .d => .set_7_D
  | .o7, .e => .set_7_E
  | .o7, .h => .set_7_H
  | .o7, .l => .set_7_L
  | .o7, .a => .set_7_A

/-- `SET b,(HL)` (R292). -/
def setInd (b : Oct) : Instr :=
  match b with
  | .o0 => .set_0_iHL
  | .o1 => .set_1_iHL
  | .o2 => .set_2_iHL
  | .o3 => .set_3_iHL
  | .o4 => .set_4_iHL
  | .o5 => .set_5_iHL
  | .o6 => .set_6_iHL
  | .o7 => .set_7_iHL

end Fam

end Sys2Proof
end

