-- ==== Sys2Proof/WellFormed.lean ====
section
/-! DEFINITION. Which terms of `Instr` are instructions. The types of the operands already bound every field (a byte is 8 bits, a
word 16), and every value of every field selects something (93_implementation_defined.md U27), so one check is left. -/

namespace Sys2Proof

/-- The prefix row is not an instruction of its own (30_encoding.md R135, 47_system.md R326): the two bytes 0xCB, op2 are the
instruction of the CB table, which has its own constructor. Every other term is an instruction. -/
def Instr.wellFormed : Instr → Bool
  | .prefix_CB _ => false
  | _ => true

end Sys2Proof
end

