-- ==== Sys2Proof/Decode.lean ====
section
/-! DEFINITION. The decoder, total on the three bytes at PC, written from the field table of 30_encoding.md R131 and R136; the
encoder, written from the opcode values of R130, R136 and spec/opcode_table.json; lengths (R132); the
mnemonic and the cycle counts of an instruction (R132, R136, R137). -/

namespace Sys2Proof

/-- Bits 7:0 of a 16-bit value. -/
def loByte (w : Word) : Byte := w.extractLsb' 0 8

/-- Bits 15:8 of a 16-bit value. -/
def hiByte (w : Word) : Byte := w.extractLsb' 8 8

/-- `hi ++ lo` (00_scope.md R6): the 16-bit value with these halves. -/
def wordOf (hi lo : Byte) : Word := hi ++ lo

/-! ## Fields (30_encoding.md R122) -/

/-- The three-bit value n mod 8. -/
def octOf (n : Nat) : Oct :=
  match n % 8 with
  | 0 => .o0 | 1 => .o1 | 2 => .o2 | 3 => .o3 | 4 => .o4 | 5 => .o5 | 6 => .o6 | _ => .o7

/-- The two-bit value n mod 4. -/
def quadOf (n : Nat) : Quad :=
  match n % 4 with
  | 0 => .q0 | 1 => .q1 | 2 => .q2 | _ => .q3

/-- The number a three-bit field stands for. -/
def octNat : Oct → Nat
  | .o0 => 0 | .o1 => 1 | .o2 => 2 | .o3 => 3 | .o4 => 4 | .o5 => 5 | .o6 => 6 | .o7 => 7

/-- Field `x`: op[7:6]. -/
def fieldX (op : Byte) : Quad := quadOf (op.toNat / 64)

/-- Field `y`: op[5:3]. -/
def fieldY (op : Byte) : Oct := octOf (op.toNat / 8)

/-- Field `z`: op[2:0]. -/
def fieldZ (op : Byte) : Oct := octOf op.toNat

/-- Field `p`: op[5:4]. -/
def fieldP (op : Byte) : Quad := quadOf (op.toNat / 16)

/-- Field `q`: op[3]. -/
def fieldQ (op : Byte) : Bool := op.toNat / 8 % 2 = 1

/-! ## Selector tables (30_encoding.md R123) -/

/-- `r8`: none is index 6, the byte at address HL. -/
def r8At : Oct → Option R8
  | .o0 => some .b | .o1 => some .c | .o2 => some .d | .o3 => some .e
  | .o4 => some .h | .o5 => some .l | .o6 => none | .o7 => some .a

/-- `r16`. -/
def r16At : Quad → R16
  | .q0 => .bc | .q1 => .de | .q2 => .hl | .q3 => .sp

/-- `r16stk`. -/
def r16StkAt : Quad → R16Stk
  | .q0 => .bc | .q1 => .de | .q2 => .hl | .q3 => .af

/-- `alu[y]`. -/
def aluAt : Oct → AluOp
  | .o0 => .add | .o1 => .adc | .o2 => .sub | .o3 => .sbc | .o4 => .and | .o5 => .xor | .o6 => .or | .o7 => .cp

/-- `rot[y]`. -/
def rotAt : Oct → RotOp
  | .o0 => .rlc | .o1 => .rrc | .o2 => .rl | .o3 => .rr | .o4 => .sla | .o5 => .sra | .o6 => .swap | .o7 => .srl

/-- The opcode byte of an unassigned opcode (R133). -/
def unassignedOp : Unassigned → Byte
  | .xD3 => 0xD3 | .xDB => 0xDB | .xDD => 0xDD | .xE3 => 0xE3 | .xE4 => 0xE4 | .xEB => 0xEB
  | .xEC => 0xEC | .xED => 0xED | .xF4 => 0xF4 | .xFC => 0xFC | .xFD => 0xFD

/-! ## The decoder -/

/-- Block x = 0 of the main table (R131); `n` is the byte after the opcode, `nn` the word after it. -/
def decodeBlock0 (op n : Byte) (nn : Word) : Instr :=
  match fieldZ op with
  | .o0 =>
    match fieldY op with
    | .o0 => .nop
    | .o1 => .ld_inn_SP nn
    | .o2 => .stop n
    | .o3 => .jr_e n
    | .o4 => Fam.jrCond .nz n
    | .o5 => Fam.jrCond .z n
    | .o6 => Fam.jrCond .nc n
    | .o7 => Fam.jrCond .c n
  | .o1 => if fieldQ op then Fam.addHl (r16At (fieldP op)) else Fam.ldPairImm (r16At (fieldP op)) nn
  | .o2 =>
    match fieldQ op, fieldP op with
    | false, .q0 => .ld_iBC_A
    | false, .q1 => .ld_iDE_A
    | false, .q2 => .ld_iHLp_A
    | false, .q3 => .ld_iHLm_A
    | true, .q0 => .ld_A_iBC
    | true, .q1 => .ld_A_iDE
    | true, .q2 => .ld_A_iHLp
    | true, .q3 => .ld_A_iHLm
  | .o3 => if fieldQ op then Fam.decPair (r16At (fieldP op)) else Fam.incPair (r16At (fieldP op))
  | .o4 =>
    match r8At (fieldY op) with
    | some r => Fam.incReg r
    | none => .inc_iHL
  | .o5 =>
    match r8At (fieldY op) with
    | some r => Fam.decReg r
    | none => .dec_iHL
  | .o6 =>
    match r8At (fieldY op) with
    | some r => Fam.ldRegImm r n
    | none => .ld_iHL_n n
  | .o7 =>
    match fieldY op with
    | .o0 => .rlca
    | .o1 => .rrca
    | .o2 => .rla
    | .o3 => .rra
    | .o4 => .daa
    | .o5 => .cpl
    | .o6 => .scf
    | .o7 => .ccf

/-- Block x = 1: `LD r8[y],r8[z]`, and HALT where both are 6 (R131). -/
def decodeBlock1 (op : Byte) : Instr :=
  match r8At (fieldY op), r8At (fieldZ op) with
  | some dst, some src => Fam.ldRegReg dst src
  | some dst, none => Fam.ldRegInd dst
  | none, some src => Fam.ldIndReg src
  | none, none => .halt

/-- Block x = 2: `alu[y] A,r8[z]` (R131). -/
def decodeBlock2 (op : Byte) : Instr :=
  match r8At (fieldZ op) with
  | some r => Fam.aluReg (aluAt (fieldY op)) r
  | none => Fam.aluInd (aluAt (fieldY op))

/-- The CB table (R136). -/
def decodeCb (op2 : Byte) : Instr :=
  match fieldX op2, r8At (fieldZ op2) with
  | .q0, some r => Fam.rotReg (rotAt (fieldY op2)) r
  | .q0, none => Fam.rotInd (rotAt (fieldY op2))
  | .q1, some r => Fam.bitReg (fieldY op2) r
  | .q1, none => Fam.bitInd (fieldY op2)
  | .q2, some r => Fam.resReg (fieldY op2) r
  | .q2, none => Fam.resInd (fieldY op2)
  | .q3, some r => Fam.setReg (fieldY op2) r
  | .q3, none => Fam.setInd (fieldY op2)

/-- Block x = 3 (R131); y = 1, z = 3 is the prefix 0xCB, whose second byte `n` selects in the CB table (R135, R326). -/
def decodeBlock3 (op n : Byte) (nn : Word) : Instr :=
  match fieldZ op with
  | .o0 =>
    match fieldY op with
    | .o0 => Fam.retCond .nz
    | .o1 => Fam.retCond .z
    | .o2 => Fam.retCond .nc
    | .o3 => Fam.retCond .c
    | .o4 => .ldh_n_A n
    | .o5 => .add_SP_e n
    | .o6 => .ldh_A_n n
    | .o7 => .ld_HL_SPe n
  | .o1 =>
    match fieldQ op, fieldP op with
    | false, p => Fam.pop (r16StkAt p)
    | true, .q0 => .ret
    | true, .q1 => .reti
    | true, .q2 => .jp_HL
    | true, .q3 => .ld_SP_HL
  | .o2 =>
    match fieldY op with
    | .o0 => Fam.jpCond .nz nn
    | .o1 => Fam.jpCond .z nn
    | .o2 => Fam.jpCond .nc nn
    | .o3 => Fam.jpCond .c nn
    | .o4 => .ld_iC_A
    | .o5 => .ld_inn_A nn
    | .o6 => .ld_A_iC
    | .o7 => .ld_A_inn nn
  | .o3 =>
    match fieldY op with
    | .o0 => .jp_nn nn
    | .o1 => decodeCb n
    | .o2 => .illegal_D3
    | .o3 => .illegal_DB
    | .o4 => .illegal_E3
    | .o5 => .illegal_EB
    | .o6 => .di
    | .o7 => .ei
  | .o4 =>
    match fieldY op with
    | .o0 => Fam.callCond .nz nn
    | .o1 => Fam.callCond .z nn
    | .o2 => Fam.callCond .nc nn
    | .o3 => Fam.callCond .c nn
    | .o4 => .illegal_E4
    | .o5 => .illegal_EC
    | .o6 => .illegal_F4
    | .o7 => .illegal_FC
  | .o5 =>
    match fieldQ op, fieldP op with
    | false, p => Fam.push (r16StkAt p)
    | true, .q0 => .call_nn nn
    | true, .q1 => .illegal_DD
    | true, .q2 => .illegal_ED
    | true, .q3 => .illegal_FD
  | .o6 => Fam.aluImm (aluAt (fieldY op)) n
  | .o7 => Fam.rst (fieldY op)

/-- The instruction that the three bytes at PC spell: a pure, total function of the bytes (R120). An instruction of fewer bytes
does not look at the others. -/
def decode (b0 b1 b2 : Byte) : Instr :=
  match fieldX b0 with
  | .q0 => decodeBlock0 b0 b1 (wordOf b2 b1)
  | .q1 => decodeBlock1 b0
  | .q2 => decodeBlock2 b0
  | .q3 => decodeBlock3 b0 b1 (wordOf b2 b1)

/-- Length in bytes by the first byte (R132). -/
def lengthOf (b0 : Byte) : Nat :=
  if b0 ∈ [0x01, 0x08, 0x11, 0x21, 0x31, 0xC2, 0xC3, 0xC4, 0xCA, 0xCC, 0xCD, 0xD2, 0xD4, 0xDA, 0xDC, 0xEA, 0xFA] then 3
  else if b0 ∈ [0x06, 0x0E, 0x10, 0x16, 0x18, 0x1E, 0x20, 0x26, 0x28, 0x2E, 0x30, 0x36, 0x38, 0x3E, 0xC6, 0xCB, 0xCE, 0xD6,
    0xDE, 0xE0, 0xE6, 0xE8, 0xEE, 0xF0, 0xF6, 0xF8, 0xFE] then 2
  else 1

/-- Why a list of bytes spells no instruction: it is empty, or it ends inside one. -/
inductive DecodeError where
  | noBytes
  | truncated (opcode : Byte)
  deriving DecidableEq, Repr

/-- The instruction at the head of a list of bytes, with the rest of the list. The only lists refused are those that are too
short: every byte value decodes (R120). -/
def decodeBytes : List Byte → Except DecodeError (Instr × List Byte)
  | [] => .error .noBytes
  | b0 :: rest =>
    if rest.length + 1 < lengthOf b0 then .error (.truncated b0)
    else .ok (decode b0 (rest.getD 0 0) (rest.getD 1 0), rest.drop (lengthOf b0 - 1))

/-! ## The encoder -/

/-- The bytes of an instruction in memory order (R121, R130, R136). -/
def encode : Instr → List Byte
  | .nop => [0x00]
  | .ld_BC_nn nn => [0x01, loByte nn, hiByte nn]
  | .ld_iBC_A => [0x02]
  | .inc_BC => [0x03]
  | .inc_B => [0x04]
  | .dec_B => [0x05]
  | .ld_B_n n => [0x06, n]
  | .rlca => [0x07]
  | .ld_inn_SP nn => [0x08, loByte nn, hiByte nn]
  | .add_HL_BC => [0x09]
  | .ld_A_iBC => [0x0A]
  | .dec_BC => [0x0B]
  | .inc_C => [0x0C]
  | .dec_C => [0x0D]
  | .ld_C_n n => [0x0E, n]
  | .rrca => [0x0F]
  | .stop n => [0x10, n]
  | .ld_DE_nn nn => [0x11, loByte nn, hiByte nn]
  | .ld_iDE_A => [0x12]
  | .inc_DE => [0x13]
  | .inc_D => [0x14]
  | .dec_D => [0x15]
  | .ld_D_n n => [0x16, n]
  | .rla => [0x17]
  | .jr_e e => [0x18, e]
  | .add_HL_DE => [0x19]
  | .ld_A_iDE => [0x1A]
  | .dec_DE => [0x1B]
  | .inc_E => [0x1C]
  | .dec_E => [0x1D]
  | .ld_E_n n => [0x1E, n]
  | .rra => [0x1F]
  | .jr_NZ_e e => [0x20, e]
  | .ld_HL_nn nn => [0x21, loByte nn, hiByte nn]
  | .ld_iHLp_A => [0x22]
  | .inc_HL => [0x23]
  | .inc_H => [0x24]
  | .dec_H => [0x25]
  | .ld_H_n n => [0x26, n]
  | .daa => [0x27]
  | .jr_Z_e e => [0x28, e]
  | .add_HL_HL => [0x29]
  | .ld_A_iHLp => [0x2A]
  | .dec_HL => [0x2B]
  | .inc_L => [0x2C]
  | .dec_L => [0x2D]
  | .ld_L_n n => [0x2E, n]
  | .cpl => [0x2F]
  | .jr_NC_e e => [0x30, e]
  | .ld_SP_nn nn => [0x31, loByte nn, hiByte nn]
  | .ld_iHLm_A => [0x32]
  | .inc_SP => [0x33]
  | .inc_iHL => [0x34]
  | .dec_iHL => [0x35]
  | .ld_iHL_n n => [0x36, n]
  | .scf => [0x37]
  | .jr_C_e e => [0x38, e]
  | .add_HL_SP => [0x39]
  | .ld_A_iHLm => [0x3A]
  | .dec_SP => [0x3B]
  | .inc_A => [0x3C]
  | .dec_A => [0x3D]
  | .ld_A_n n => [0x3E, n]
  | .ccf => [0x3F]
  | .ld_B_B => [0x40]
  | .ld_B_C => [0x41]
  | .ld_B_D => [0x42]
  | .ld_B_E => [0x43]
  | .ld_B_H => [0x44]
  | .ld_B_L => [0x45]
  | .ld_B_iHL => [0x46]
  | .ld_B_A => [0x47]
  | .ld_C_B => [0x48]
  | .ld_C_C => [0x49]
  | .ld_C_D => [0x4A]
  | .ld_C_E => [0x4B]
  | .ld_C_H => [0x4C]
  | .ld_C_L => [0x4D]
  | .ld_C_iHL => [0x4E]
  | .ld_C_A => [0x4F]
  | .ld_D_B => [0x50]
  | .ld_D_C => [0x51]
  | .ld_D_D => [0x52]
  | .ld_D_E => [0x53]
  | .ld_D_H => [0x54]
  | .ld_D_L => [0x55]
  | .ld_D_iHL => [0x56]
  | .ld_D_A => [0x57]
  | .ld_E_B => [0x58]
  | .ld_E_C => [0x59]
  | .ld_E_D => [0x5A]
  | .ld_E_E => [0x5B]
  | .ld_E_H => [0x5C]
  | .ld_E_L => [0x5D]
  | .ld_E_iHL => [0x5E]
  | .ld_E_A => [0x5F]
  | .ld_H_B => [0x60]
  | .ld_H_C => [0x61]
  | .ld_H_D => [0x62]
  | .ld_H_E => [0x63]
  | .ld_H_H => [0x64]
  | .ld_H_L => [0x65]
  | .ld_H_iHL => [0x66]
  | .ld_H_A => [0x67]
  | .ld_L_B => [0x68]
  | .ld_L_C => [0x69]
  | .ld_L_D => [0x6A]
  | .ld_L_E => [0x6B]
  | .ld_L_H => [0x6C]
  | .ld_L_L => [0x6D]
  | .ld_L_iHL => [0x6E]
  | .ld_L_A => [0x6F]
  | .ld_iHL_B => [0x70]
  | .ld_iHL_C => [0x71]
  | .ld_iHL_D => [0x72]
  | .ld_iHL_E => [0x73]
  | .ld_iHL_H => [0x74]
  | .ld_iHL_L => [0x75]
  | .halt => [0x76]
  | .ld_iHL_A => [0x77]
  | .ld_A_B => [0x78]
  | .ld_A_C => [0x79]
  | .ld_A_D => [0x7A]
  | .ld_A_E => [0x7B]
  | .ld_A_H => [0x7C]
  | .ld_A_L => [0x7D]
  | .ld_A_iHL => [0x7E]
  | .ld_A_A => [0x7F]
  | .add_A_B => [0x80]
  | .add_A_C => [0x81]
  | .add_A_D => [0x82]
  | .add_A_E => [0x83]
  | .add_A_H => [0x84]
  | .add_A_L => [0x85]
  | .add_A_iHL => [0x86]
  | .add_A_A => [0x87]
  | .adc_A_B => [0x88]
  | .adc_A_C => [0x89]
  | .adc_A_D => [0x8A]
  | .adc_A_E => [0x8B]
  | .adc_A_H => [0x8C]
  | .adc_A_L => [0x8D]
  | .adc_A_iHL => [0x8E]
  | .adc_A_A => [0x8F]
  | .sub_B => [0x90]
  | .sub_C => [0x91]
  | .sub_D => [0x92]
  | .sub_E => [0x93]
  | .sub_H => [0x94]
  | .sub_L => [0x95]
  | .sub_iHL => [0x96]
  | .sub_A => [0x97]
  | .sbc_A_B => [0x98]
  | .sbc_A_C => [0x99]
  | .sbc_A_D => [0x9A]
  | .sbc_A_E => [0x9B]
  | .sbc_A_H => [0x9C]
  | .sbc_A_L => [0x9D]
  | .sbc_A_iHL => [0x9E]
  | .sbc_A_A => [0x9F]
  | .and_B => [0xA0]
  | .and_C => [0xA1]
  | .and_D => [0xA2]
  | .and_E => [0xA3]
  | .and_H => [0xA4]
  | .and_L => [0xA5]
  | .and_iHL => [0xA6]
  | .and_A => [0xA7]
  | .xor_B => [0xA8]
  | .xor_C => [0xA9]
  | .xor_D => [0xAA]
  | .xor_E => [0xAB]
  | .xor_H => [0xAC]
  | .xor_L => [0xAD]
  | .xor_iHL => [0xAE]
  | .xor_A => [0xAF]
  | .or_B => [0xB0]
  | .or_C => [0xB1]
  | .or_D => [0xB2]
  | .or_E => [0xB3]
  | .or_H => [0xB4]
  | .or_L => [0xB5]
  | .or_iHL => [0xB6]
  | .or_A => [0xB7]
  | .cp_B => [0xB8]
  | .cp_C => [0xB9]
  | .cp_D => [0xBA]
  | .cp_E => [0xBB]
  | .cp_H => [0xBC]
  | .cp_L => [0xBD]
  | .cp_iHL => [0xBE]
  | .cp_A => [0xBF]
  | .ret_NZ => [0xC0]
  | .pop_BC => [0xC1]
  | .jp_NZ_nn nn => [0xC2, loByte nn, hiByte nn]
  | .jp_nn nn => [0xC3, loByte nn, hiByte nn]
  | .call_NZ_nn nn => [0xC4, loByte nn, hiByte nn]
  | .push_BC => [0xC5]
  | .add_A_n n => [0xC6, n]
  | .rst_00H => [0xC7]
  | .ret_Z => [0xC8]
  | .ret => [0xC9]
  | .jp_Z_nn nn => [0xCA, loByte nn, hiByte nn]
  | .prefix_CB op2 => [0xCB, op2]
  | .call_Z_nn nn => [0xCC, loByte nn, hiByte nn]
  | .call_nn nn => [0xCD, loByte nn, hiByte nn]
  | .adc_A_n n => [0xCE, n]
  | .rst_08H => [0xCF]
  | .ret_NC => [0xD0]
  | .pop_DE => [0xD1]
  | .jp_NC_nn nn => [0xD2, loByte nn, hiByte nn]
  | .illegal_D3 => [0xD3]
  | .call_NC_nn nn => [0xD4, loByte nn, hiByte nn]
  | .push_DE => [0xD5]
  | .sub_n n => [0xD6, n]
  | .rst_10H => [0xD7]
  | .ret_C => [0xD8]
  | .reti => [0xD9]
  | .jp_C_nn nn => [0xDA, loByte nn, hiByte nn]
  | .illegal_DB => [0xDB]
  | .call_C_nn nn => [0xDC, loByte nn, hiByte nn]
  | .illegal_DD => [0xDD]
  | .sbc_A_n n => [0xDE, n]
  | .rst_18H => [0xDF]
  | .ldh_n_A n => [0xE0, n]
  | .pop_HL => [0xE1]
  | .ld_iC_A => [0xE2]
  | .illegal_E3 => [0xE3]
  | .illegal_E4 => [0xE4]
  | .push_HL => [0xE5]
  | .and_n n => [0xE6, n]
  | .rst_20H => [0xE7]
  | .add_SP_e e => [0xE8, e]
  | .jp_HL => [0xE9]
  | .ld_inn_A nn => [0xEA, loByte nn, hiByte nn]
  | .illegal_EB => [0xEB]
  | .illegal_EC => [0xEC]
  | .illegal_ED => [0xED]
  | .xor_n n => [0xEE, n]
  | .rst_28H => [0xEF]
  | .ldh_A_n n => [0xF0, n]
  | .pop_AF => [0xF1]
  | .ld_A_iC => [0xF2]
  | .di => [0xF3]
  | .illegal_F4 => [0xF4]
  | .push_AF => [0xF5]
  | .or_n n => [0xF6, n]
  | .rst_30H => [0xF7]
  | .ld_HL_SPe e => [0xF8, e]
  | .ld_SP_HL => [0xF9]
  | .ld_A_inn nn => [0xFA, loByte nn, hiByte nn]
  | .ei => [0xFB]
  | .illegal_FC => [0xFC]
  | .illegal_FD => [0xFD]
  | .cp_n n => [0xFE, n]
  | .rst_38H => [0xFF]
  | .rlc_B => [0xCB, 0x00]
  | .rlc_C => [0xCB, 0x01]
  | .rlc_D => [0xCB, 0x02]
  | .rlc_E => [0xCB, 0x03]
  | .rlc_H => [0xCB, 0x04]
  | .rlc_L => [0xCB, 0x05]
  | .rlc_iHL => [0xCB, 0x06]
  | .rlc_A => [0xCB, 0x07]
  | .rrc_B => [0xCB, 0x08]
  | .rrc_C => [0xCB, 0x09]
  | .rrc_D => [0xCB, 0x0A]
  | .rrc_E => [0xCB, 0x0B]
  | .rrc_H => [0xCB, 0x0C]
  | .rrc_L => [0xCB, 0x0D]
  | .rrc_iHL => [0xCB, 0x0E]
  | .rrc_A => [0xCB, 0x0F]
  | .rl_B => [0xCB, 0x10]
  | .rl_C => [0xCB, 0x11]
  | .rl_D => [0xCB, 0x12]
  | .rl_E => [0xCB, 0x13]
  | .rl_H => [0xCB, 0x14]
  | .rl_L => [0xCB, 0x15]
  | .rl_iHL => [0xCB, 0x16]
  | .rl_A => [0xCB, 0x17]
  | .rr_B => [0xCB, 0x18]
  | .rr_C => [0xCB, 0x19]
  | .rr_D => [0xCB, 0x1A]
  | .rr_E => [0xCB, 0x1B]
  | .rr_H => [0xCB, 0x1C]
  | .rr_L => [0xCB, 0x1D]
  | .rr_iHL => [0xCB, 0x1E]
  | .rr_A => [0xCB, 0x1F]
  | .sla_B => [0xCB, 0x20]
  | .sla_C => [0xCB, 0x21]
  | .sla_D => [0xCB, 0x22]
  | .sla_E => [0xCB, 0x23]
  | .sla_H => [0xCB, 0x24]
  | .sla_L => [0xCB, 0x25]
  | .sla_iHL => [0xCB, 0x26]
  | .sla_A => [0xCB, 0x27]
  | .sra_B => [0xCB, 0x28]
  | .sra_C => [0xCB, 0x29]
  | .sra_D => [0xCB, 0x2A]
  | .sra_E => [0xCB, 0x2B]
  | .sra_H => [0xCB, 0x2C]
  | .sra_L => [0xCB, 0x2D]
  | .sra_iHL => [0xCB, 0x2E]
  | .sra_A => [0xCB, 0x2F]
  | .swap_B => [0xCB, 0x30]
  | .swap_C => [0xCB, 0x31]
  | .swap_D => [0xCB, 0x32]
  | .swap_E => [0xCB, 0x33]
  | .swap_H => [0xCB, 0x34]
  | .swap_L => [0xCB, 0x35]
  | .swap_iHL => [0xCB, 0x36]
  | .swap_A => [0xCB, 0x37]
  | .srl_B => [0xCB, 0x38]
  | .srl_C => [0xCB, 0x39]
  | .srl_D => [0xCB, 0x3A]
  | .srl_E => [0xCB, 0x3B]
  | .srl_H => [0xCB, 0x3C]
  | .srl_L => [0xCB, 0x3D]
  | .srl_iHL => [0xCB, 0x3E]
  | .srl_A => [0xCB, 0x3F]
  | .bit_0_B => [0xCB, 0x40]
  | .bit_0_C => [0xCB, 0x41]
  | .bit_0_D => [0xCB, 0x42]
  | .bit_0_E => [0xCB, 0x43]
  | .bit_0_H => [0xCB, 0x44]
  | .bit_0_L => [0xCB, 0x45]
  | .bit_0_iHL => [0xCB, 0x46]
  | .bit_0_A => [0xCB, 0x47]
  | .bit_1_B => [0xCB, 0x48]
  | .bit_1_C => [0xCB, 0x49]
  | .bit_1_D => [0xCB, 0x4A]
  | .bit_1_E => [0xCB, 0x4B]
  | .bit_1_H => [0xCB, 0x4C]
  | .bit_1_L => [0xCB, 0x4D]
  | .bit_1_iHL => [0xCB, 0x4E]
  | .bit_1_A => [0xCB, 0x4F]
  | .bit_2_B => [0xCB, 0x50]
  | .bit_2_C => [0xCB, 0x51]
  | .bit_2_D => [0xCB, 0x52]
  | .bit_2_E => [0xCB, 0x53]
  | .bit_2_H => [0xCB, 0x54]
  | .bit_2_L => [0xCB, 0x55]
  | .bit_2_iHL => [0xCB, 0x56]
  | .bit_2_A => [0xCB, 0x57]
  | .bit_3_B => [0xCB, 0x58]
  | .bit_3_C => [0xCB, 0x59]
  | .bit_3_D => [0xCB, 0x5A]
  | .bit_3_E => [0xCB, 0x5B]
  | .bit_3_H => [0xCB, 0x5C]
  | .bit_3_L => [0xCB, 0x5D]
  | .bit_3_iHL => [0xCB, 0x5E]
  | .bit_3_A => [0xCB, 0x5F]
  | .bit_4_B => [0xCB, 0x60]
  | .bit_4_C => [0xCB, 0x61]
  | .bit_4_D => [0xCB, 0x62]
  | .bit_4_E => [0xCB, 0x63]
  | .bit_4_H => [0xCB, 0x64]
  | .bit_4_L => [0xCB, 0x65]
  | .bit_4_iHL => [0xCB, 0x66]
  | .bit_4_A => [0xCB, 0x67]
  | .bit_5_B => [0xCB, 0x68]
  | .bit_5_C => [0xCB, 0x69]
  | .bit_5_D => [0xCB, 0x6A]
  | .bit_5_E => [0xCB, 0x6B]
  | .bit_5_H => [0xCB, 0x6C]
  | .bit_5_L => [0xCB, 0x6D]
  | .bit_5_iHL => [0xCB, 0x6E]
  | .bit_5_A => [0xCB, 0x6F]
  | .bit_6_B => [0xCB, 0x70]
  | .bit_6_C => [0xCB, 0x71]
  | .bit_6_D => [0xCB, 0x72]
  | .bit_6_E => [0xCB, 0x73]
  | .bit_6_H => [0xCB, 0x74]
  | .bit_6_L => [0xCB, 0x75]
  | .bit_6_iHL => [0xCB, 0x76]
  | .bit_6_A => [0xCB, 0x77]
  | .bit_7_B => [0xCB, 0x78]
  | .bit_7_C => [0xCB, 0x79]
  | .bit_7_D => [0xCB, 0x7A]
  | .bit_7_E => [0xCB, 0x7B]
  | .bit_7_H => [0xCB, 0x7C]
  | .bit_7_L => [0xCB, 0x7D]
  | .bit_7_iHL => [0xCB, 0x7E]
  | .bit_7_A => [0xCB, 0x7F]
  | .res_0_B => [0xCB, 0x80]
  | .res_0_C => [0xCB, 0x81]
  | .res_0_D => [0xCB, 0x82]
  | .res_0_E => [0xCB, 0x83]
  | .res_0_H => [0xCB, 0x84]
  | .res_0_L => [0xCB, 0x85]
  | .res_0_iHL => [0xCB, 0x86]
  | .res_0_A => [0xCB, 0x87]
  | .res_1_B => [0xCB, 0x88]
  | .res_1_C => [0xCB, 0x89]
  | .res_1_D => [0xCB, 0x8A]
  | .res_1_E => [0xCB, 0x8B]
  | .res_1_H => [0xCB, 0x8C]
  | .res_1_L => [0xCB, 0x8D]
  | .res_1_iHL => [0xCB, 0x8E]
  | .res_1_A => [0xCB, 0x8F]
  | .res_2_B => [0xCB, 0x90]
  | .res_2_C => [0xCB, 0x91]
  | .res_2_D => [0xCB, 0x92]
  | .res_2_E => [0xCB, 0x93]
  | .res_2_H => [0xCB, 0x94]
  | .res_2_L => [0xCB, 0x95]
  | .res_2_iHL => [0xCB, 0x96]
  | .res_2_A => [0xCB, 0x97]
  | .res_3_B => [0xCB, 0x98]
  | .res_3_C => [0xCB, 0x99]
  | .res_3_D => [0xCB, 0x9A]
  | .res_3_E => [0xCB, 0x9B]
  | .res_3_H => [0xCB, 0x9C]
  | .res_3_L => [0xCB, 0x9D]
  | .res_3_iHL => [0xCB, 0x9E]
  | .res_3_A => [0xCB, 0x9F]
  | .res_4_B => [0xCB, 0xA0]
  | .res_4_C => [0xCB, 0xA1]
  | .res_4_D => [0xCB, 0xA2]
  | .res_4_E => [0xCB, 0xA3]
  | .res_4_H => [0xCB, 0xA4]
  | .res_4_L => [0xCB, 0xA5]
  | .res_4_iHL => [0xCB, 0xA6]
  | .res_4_A => [0xCB, 0xA7]
  | .res_5_B => [0xCB, 0xA8]
  | .res_5_C => [0xCB, 0xA9]
  | .res_5_D => [0xCB, 0xAA]
  | .res_5_E => [0xCB, 0xAB]
  | .res_5_H => [0xCB, 0xAC]
  | .res_5_L => [0xCB, 0xAD]
  | .res_5_iHL => [0xCB, 0xAE]
  | .res_5_A => [0xCB, 0xAF]
  | .res_6_B => [0xCB, 0xB0]
  | .res_6_C => [0xCB, 0xB1]
  | .res_6_D => [0xCB, 0xB2]
  | .res_6_E => [0xCB, 0xB3]
  | .res_6_H => [0xCB, 0xB4]
  | .res_6_L => [0xCB, 0xB5]
  | .res_6_iHL => [0xCB, 0xB6]
  | .res_6_A => [0xCB, 0xB7]
  | .res_7_B => [0xCB, 0xB8]
  | .res_7_C => [0xCB, 0xB9]
  | .res_7_D => [0xCB, 0xBA]
  | .res_7_E => [0xCB, 0xBB]
  | .res_7_H => [0xCB, 0xBC]
  | .res_7_L => [0xCB, 0xBD]
  | .res_7_iHL => [0xCB, 0xBE]
  | .res_7_A => [0xCB, 0xBF]
  | .set_0_B => [0xCB, 0xC0]
  | .set_0_C => [0xCB, 0xC1]
  | .set_0_D => [0xCB, 0xC2]
  | .set_0_E => [0xCB, 0xC3]
  | .set_0_H => [0xCB, 0xC4]
  | .set_0_L => [0xCB, 0xC5]
  | .set_0_iHL => [0xCB, 0xC6]
  | .set_0_A => [0xCB, 0xC7]
  | .set_1_B => [0xCB, 0xC8]
  | .set_1_C => [0xCB, 0xC9]
  | .set_1_D => [0xCB, 0xCA]
  | .set_1_E => [0xCB, 0xCB]
  | .set_1_H => [0xCB, 0xCC]
  | .set_1_L => [0xCB, 0xCD]
  | .set_1_iHL => [0xCB, 0xCE]
  | .set_1_A => [0xCB, 0xCF]
  | .set_2_B => [0xCB, 0xD0]
  | .set_2_C => [0xCB, 0xD1]
  | .set_2_D => [0xCB, 0xD2]
  | .set_2_E => [0xCB, 0xD3]
  | .set_2_H => [0xCB, 0xD4]
  | .set_2_L => [0xCB, 0xD5]
  | .set_2_iHL => [0xCB, 0xD6]
  | .set_2_A => [0xCB, 0xD7]
  | .set_3_B => [0xCB, 0xD8]
  | .set_3_C => [0xCB, 0xD9]
  | .set_3_D => [0xCB, 0xDA]
  | .set_3_E => [0xCB, 0xDB]
  | .set_3_H => [0xCB, 0xDC]
  | .set_3_L => [0xCB, 0xDD]
  | .set_3_iHL => [0xCB, 0xDE]
  | .set_3_A => [0xCB, 0xDF]
  | .set_4_B => [0xCB, 0xE0]
  | .set_4_C => [0xCB, 0xE1]
  | .set_4_D => [0xCB, 0xE2]
  | .set_4_E => [0xCB, 0xE3]
  | .set_4_H => [0xCB, 0xE4]
  | .set_4_L => [0xCB, 0xE5]
  | .set_4_iHL => [0xCB, 0xE6]
  | .set_4_A => [0xCB, 0xE7]
  | .set_5_B => [0xCB, 0xE8]
  | .set_5_C => [0xCB, 0xE9]
  | .set_5_D => [0xCB, 0xEA]
  | .set_5_E => [0xCB, 0xEB]
  | .set_5_H => [0xCB, 0xEC]
  | .set_5_L => [0xCB, 0xED]
  | .set_5_iHL => [0xCB, 0xEE]
  | .set_5_A => [0xCB, 0xEF]
  | .set_6_B => [0xCB, 0xF0]
  | .set_6_C => [0xCB, 0xF1]
  | .set_6_D => [0xCB, 0xF2]
  | .set_6_E => [0xCB, 0xF3]
  | .set_6_H => [0xCB, 0xF4]
  | .set_6_L => [0xCB, 0xF5]
  | .set_6_iHL => [0xCB, 0xF6]
  | .set_6_A => [0xCB, 0xF7]
  | .set_7_B => [0xCB, 0xF8]
  | .set_7_C => [0xCB, 0xF9]
  | .set_7_D => [0xCB, 0xFA]
  | .set_7_E => [0xCB, 0xFB]
  | .set_7_H => [0xCB, 0xFC]
  | .set_7_L => [0xCB, 0xFD]
  | .set_7_iHL => [0xCB, 0xFE]
  | .set_7_A => [0xCB, 0xFF]

/-- The length of an instruction in bytes (R121). -/
def instrLength (i : Instr) : Nat := (encode i).length

/-! ## The opcode table's word numbers -/

/-- The bytes in memory, three of them, of an instruction whose bits the opcode table numbers `w` over `nbits` bits; bits above
`nbits` are 0. A CB row's number is written first byte high (R139: "so `0xCB7C`"), every other number first byte low
(log entry 12). -/
def tableBytes (nbits w : Nat) : List Byte :=
  let w := w % 2 ^ nbits
  if nbits = 16 ∧ w / 256 = 0xCB then [0xCB, BitVec.ofNat 8 w, 0]
  else [BitVec.ofNat 8 w, BitVec.ofNat 8 (w / 256), BitVec.ofNat 8 (w / 65536)]

/-- The instruction the decoder reads from a table word. -/
def decodeTableWord (nbits w : Nat) : Option Instr :=
  match decodeBytes (tableBytes nbits w) with
  | .ok (i, _) => some i
  | .error _ => none

/-! ## Mnemonics and cycle counts (R132, R136, R137) -/

/-- The spec's spelling of an instruction (R137; "diagnostic only"). -/
def mnemonicOf : Instr → String
  | .nop => "NOP"
  | .ld_BC_nn _ => "LD BC,nn"
  | .ld_iBC_A => "LD (BC),A"
  | .inc_BC => "INC BC"
  | .inc_B => "INC B"
  | .dec_B => "DEC B"
  | .ld_B_n _ => "LD B,n"
  | .rlca => "RLCA"
  | .ld_inn_SP _ => "LD (nn),SP"
  | .add_HL_BC => "ADD HL,BC"
  | .ld_A_iBC => "LD A,(BC)"
  | .dec_BC => "DEC BC"
  | .inc_C => "INC C"
  | .dec_C => "DEC C"
  | .ld_C_n _ => "LD C,n"
  | .rrca => "RRCA"
  | .stop _ => "STOP"
  | .ld_DE_nn _ => "LD DE,nn"
  | .ld_iDE_A => "LD (DE),A"
  | .inc_DE => "INC DE"
  | .inc_D => "INC D"
  | .dec_D => "DEC D"
  | .ld_D_n _ => "LD D,n"
  | .rla => "RLA"
  | .jr_e _ => "JR e"
  | .add_HL_DE => "ADD HL,DE"
  | .ld_A_iDE => "LD A,(DE)"
  | .dec_DE => "DEC DE"
  | .inc_E => "INC E"
  | .dec_E => "DEC E"
  | .ld_E_n _ => "LD E,n"
  | .rra => "RRA"
  | .jr_NZ_e _ => "JR NZ,e"
  | .ld_HL_nn _ => "LD HL,nn"
  | .ld_iHLp_A => "LD (HL+),A"
  | .inc_HL => "INC HL"
  | .inc_H => "INC H"
  | .dec_H => "DEC H"
  | .ld_H_n _ => "LD H,n"
  | .daa => "DAA"
  | .jr_Z_e _ => "JR Z,e"
  | .add_HL_HL => "ADD HL,HL"
  | .ld_A_iHLp => "LD A,(HL+)"
  | .dec_HL => "DEC HL"
  | .inc_L => "INC L"
  | .dec_L => "DEC L"
  | .ld_L_n _ => "LD L,n"
  | .cpl => "CPL"
  | .jr_NC_e _ => "JR NC,e"
  | .ld_SP_nn _ => "LD SP,nn"
  | .ld_iHLm_A => "LD (HL-),A"
  | .inc_SP => "INC SP"
  | .inc_iHL => "INC (HL)"
  | .dec_iHL => "DEC (HL)"
  | .ld_iHL_n _ => "LD (HL),n"
  | .scf => "SCF"
  | .jr_C_e _ => "JR C,e"
  | .add_HL_SP => "ADD HL,SP"
  | .ld_A_iHLm => "LD A,(HL-)"
  | .dec_SP => "DEC SP"
  | .inc_A => "INC A"
  | .dec_A => "DEC A"
  | .ld_A_n _ => "LD A,n"
  | .ccf => "CCF"
  | .ld_B_B => "LD B,B"
  | .ld_B_C => "LD B,C"
  | .ld_B_D => "LD B,D"
  | .ld_B_E => "LD B,E"
  | .ld_B_H => "LD B,H"
  | .ld_B_L => "LD B,L"
  | .ld_B_iHL => "LD B,(HL)"
  | .ld_B_A => "LD B,A"
  | .ld_C_B => "LD C,B"
  | .ld_C_C => "LD C,C"
  | .ld_C_D => "LD C,D"
  | .ld_C_E => "LD C,E"
  | .ld_C_H => "LD C,H"
  | .ld_C_L => "LD C,L"
  | .ld_C_iHL => "LD C,(HL)"
  | .ld_C_A => "LD C,A"
  | .ld_D_B => "LD D,B"
  | .ld_D_C => "LD D,C"
  | .ld_D_D => "LD D,D"
  | .ld_D_E => "LD D,E"
  | .ld_D_H => "LD D,H"
  | .ld_D_L => "LD D,L"
  | .ld_D_iHL => "LD D,(HL)"
  | .ld_D_A => "LD D,A"
  | .ld_E_B => "LD E,B"
  | .ld_E_C => "LD E,C"
  | .ld_E_D => "LD E,D"
  | .ld_E_E => "LD E,E"
  | .ld_E_H => "LD E,H"
  | .ld_E_L => "LD E,L"
  | .ld_E_iHL => "LD E,(HL)"
  | .ld_E_A => "LD E,A"
  | .ld_H_B => "LD H,B"
  | .ld_H_C => "LD H,C"
  | .ld_H_D => "LD H,D"
  | .ld_H_E => "LD H,E"
  | .ld_H_H => "LD H,H"
  | .ld_H_L => "LD H,L"
  | .ld_H_iHL => "LD H,(HL)"
  | .ld_H_A => "LD H,A"
  | .ld_L_B => "LD L,B"
  | .ld_L_C => "LD L,C"
  | .ld_L_D => "LD L,D"
  | .ld_L_E => "LD L,E"
  | .ld_L_H => "LD L,H"
  | .ld_L_L => "LD L,L"
  | .ld_L_iHL => "LD L,(HL)"
  | .ld_L_A => "LD L,A"
  | .ld_iHL_B => "LD (HL),B"
  | .ld_iHL_C => "LD (HL),C"
  | .ld_iHL_D => "LD (HL),D"
  | .ld_iHL_E => "LD (HL),E"
  | .ld_iHL_H => "LD (HL),H"
  | .ld_iHL_L => "LD (HL),L"
  | .halt => "HALT"
  | .ld_iHL_A => "LD (HL),A"
  | .ld_A_B => "LD A,B"
  | .ld_A_C => "LD A,C"
  | .ld_A_D => "LD A,D"
  | .ld_A_E => "LD A,E"
  | .ld_A_H => "LD A,H"
  | .ld_A_L => "LD A,L"
  | .ld_A_iHL => "LD A,(HL)"
  | .ld_A_A => "LD A,A"
  | .add_A_B => "ADD A,B"
  | .add_A_C => "ADD A,C"
  | .add_A_D => "ADD A,D"
  | .add_A_E => "ADD A,E"
  | .add_A_H => "ADD A,H"
  | .add_A_L => "ADD A,L"
  | .add_A_iHL => "ADD A,(HL)"
  | .add_A_A => "ADD A,A"
  | .adc_A_B => "ADC A,B"
  | .adc_A_C => "ADC A,C"
  | .adc_A_D => "ADC A,D"
  | .adc_A_E => "ADC A,E"
  | .adc_A_H => "ADC A,H"
  | .adc_A_L => "ADC A,L"
  | .adc_A_iHL => "ADC A,(HL)"
  | .adc_A_A => "ADC A,A"
  | .sub_B => "SUB B"
  | .sub_C => "SUB C"
  | .sub_D => "SUB D"
  | .sub_E => "SUB E"
  | .sub_H => "SUB H"
  | .sub_L => "SUB L"
  | .sub_iHL => "SUB (HL)"
  | .sub_A => "SUB A"
  | .sbc_A_B => "SBC A,B"
  | .sbc_A_C => "SBC A,C"
  | .sbc_A_D => "SBC A,D"
  | .sbc_A_E => "SBC A,E"
  | .sbc_A_H => "SBC A,H"
  | .sbc_A_L => "SBC A,L"
  | .sbc_A_iHL => "SBC A,(HL)"
  | .sbc_A_A => "SBC A,A"
  | .and_B => "AND B"
  | .and_C => "AND C"
  | .and_D => "AND D"
  | .and_E => "AND E"
  | .and_H => "AND H"
  | .and_L => "AND L"
  | .and_iHL => "AND (HL)"
  | .and_A => "AND A"
  | .xor_B => "XOR B"
  | .xor_C => "XOR C"
  | .xor_D => "XOR D"
  | .xor_E => "XOR E"
  | .xor_H => "XOR H"
  | .xor_L => "XOR L"
  | .xor_iHL => "XOR (HL)"
  | .xor_A => "XOR A"
  | .or_B => "OR B"
  | .or_C => "OR C"
  | .or_D => "OR D"
  | .or_E => "OR E"
  | .or_H => "OR H"
  | .or_L => "OR L"
  | .or_iHL => "OR (HL)"
  | .or_A => "OR A"
  | .cp_B => "CP B"
  | .cp_C => "CP C"
  | .cp_D => "CP D"
  | .cp_E => "CP E"
  | .cp_H => "CP H"
  | .cp_L => "CP L"
  | .cp_iHL => "CP (HL)"
  | .cp_A => "CP A"
  | .ret_NZ => "RET NZ"
  | .pop_BC => "POP BC"
  | .jp_NZ_nn _ => "JP NZ,nn"
  | .jp_nn _ => "JP nn"
  | .call_NZ_nn _ => "CALL NZ,nn"
  | .push_BC => "PUSH BC"
  | .add_A_n _ => "ADD A,n"
  | .rst_00H => "RST 00H"
  | .ret_Z => "RET Z"
  | .ret => "RET"
  | .jp_Z_nn _ => "JP Z,nn"
  | .prefix_CB _ => "PREFIX CB"
  | .call_Z_nn _ => "CALL Z,nn"
  | .call_nn _ => "CALL nn"
  | .adc_A_n _ => "ADC A,n"
  | .rst_08H => "RST 08H"
  | .ret_NC => "RET NC"
  | .pop_DE => "POP DE"
  | .jp_NC_nn _ => "JP NC,nn"
  | .illegal_D3 => "ILLEGAL_D3"
  | .call_NC_nn _ => "CALL NC,nn"
  | .push_DE => "PUSH DE"
  | .sub_n _ => "SUB n"
  | .rst_10H => "RST 10H"
  | .ret_C => "RET C"
  | .reti => "RETI"
  | .jp_C_nn _ => "JP C,nn"
  | .illegal_DB => "ILLEGAL_DB"
  | .call_C_nn _ => "CALL C,nn"
  | .illegal_DD => "ILLEGAL_DD"
  | .sbc_A_n _ => "SBC A,n"
  | .rst_18H => "RST 18H"
  | .ldh_n_A _ => "LDH (n),A"
  | .pop_HL => "POP HL"
  | .ld_iC_A => "LD (C),A"
  | .illegal_E3 => "ILLEGAL_E3"
  | .illegal_E4 => "ILLEGAL_E4"
  | .push_HL => "PUSH HL"
  | .and_n _ => "AND n"
  | .rst_20H => "RST 20H"
  | .add_SP_e _ => "ADD SP,e"
  | .jp_HL => "JP HL"
  | .ld_inn_A _ => "LD (nn),A"
  | .illegal_EB => "ILLEGAL_EB"
  | .illegal_EC => "ILLEGAL_EC"
  | .illegal_ED => "ILLEGAL_ED"
  | .xor_n _ => "XOR n"
  | .rst_28H => "RST 28H"
  | .ldh_A_n _ => "LDH A,(n)"
  | .pop_AF => "POP AF"
  | .ld_A_iC => "LD A,(C)"
  | .di => "DI"
  | .illegal_F4 => "ILLEGAL_F4"
  | .push_AF => "PUSH AF"
  | .or_n _ => "OR n"
  | .rst_30H => "RST 30H"
  | .ld_HL_SPe _ => "LD HL,SP+e"
  | .ld_SP_HL => "LD SP,HL"
  | .ld_A_inn _ => "LD A,(nn)"
  | .ei => "EI"
  | .illegal_FC => "ILLEGAL_FC"
  | .illegal_FD => "ILLEGAL_FD"
  | .cp_n _ => "CP n"
  | .rst_38H => "RST 38H"
  | .rlc_B => "RLC B"
  | .rlc_C => "RLC C"
  | .rlc_D => "RLC D"
  | .rlc_E => "RLC E"
  | .rlc_H => "RLC H"
  | .rlc_L => "RLC L"
  | .rlc_iHL => "RLC (HL)"
  | .rlc_A => "RLC A"
  | .rrc_B => "RRC B"
  | .rrc_C => "RRC C"
  | .rrc_D => "RRC D"
  | .rrc_E => "RRC E"
  | .rrc_H => "RRC H"
  | .rrc_L => "RRC L"
  | .rrc_iHL => "RRC (HL)"
  | .rrc_A => "RRC A"
  | .rl_B => "RL B"
  | .rl_C => "RL C"
  | .rl_D => "RL D"
  | .rl_E => "RL E"
  | .rl_H => "RL H"
  | .rl_L => "RL L"
  | .rl_iHL => "RL (HL)"
  | .rl_A => "RL A"
  | .rr_B => "RR B"
  | .rr_C => "RR C"
  | .rr_D => "RR D"
  | .rr_E => "RR E"
  | .rr_H => "RR H"
  | .rr_L => "RR L"
  | .rr_iHL => "RR (HL)"
  | .rr_A => "RR A"
  | .sla_B => "SLA B"
  | .sla_C => "SLA C"
  | .sla_D => "SLA D"
  | .sla_E => "SLA E"
  | .sla_H => "SLA H"
  | .sla_L => "SLA L"
  | .sla_iHL => "SLA (HL)"
  | .sla_A => "SLA A"
  | .sra_B => "SRA B"
  | .sra_C => "SRA C"
  | .sra_D => "SRA D"
  | .sra_E => "SRA E"
  | .sra_H => "SRA H"
  | .sra_L => "SRA L"
  | .sra_iHL => "SRA (HL)"
  | .sra_A => "SRA A"
  | .swap_B => "SWAP B"
  | .swap_C => "SWAP C"
  | .swap_D => "SWAP D"
  | .swap_E => "SWAP E"
  | .swap_H => "SWAP H"
  | .swap_L => "SWAP L"
  | .swap_iHL => "SWAP (HL)"
  | .swap_A => "SWAP A"
  | .srl_B => "SRL B"
  | .srl_C => "SRL C"
  | .srl_D => "SRL D"
  | .srl_E => "SRL E"
  | .srl_H => "SRL H"
  | .srl_L => "SRL L"
  | .srl_iHL => "SRL (HL)"
  | .srl_A => "SRL A"
  | .bit_0_B => "BIT 0,B"
  | .bit_0_C => "BIT 0,C"
  | .bit_0_D => "BIT 0,D"
  | .bit_0_E => "BIT 0,E"
  | .bit_0_H => "BIT 0,H"
  | .bit_0_L => "BIT 0,L"
  | .bit_0_iHL => "BIT 0,(HL)"
  | .bit_0_A => "BIT 0,A"
  | .bit_1_B => "BIT 1,B"
  | .bit_1_C => "BIT 1,C"
  | .bit_1_D => "BIT 1,D"
  | .bit_1_E => "BIT 1,E"
  | .bit_1_H => "BIT 1,H"
  | .bit_1_L => "BIT 1,L"
  | .bit_1_iHL => "BIT 1,(HL)"
  | .bit_1_A => "BIT 1,A"
  | .bit_2_B => "BIT 2,B"
  | .bit_2_C => "BIT 2,C"
  | .bit_2_D => "BIT 2,D"
  | .bit_2_E => "BIT 2,E"
  | .bit_2_H => "BIT 2,H"
  | .bit_2_L => "BIT 2,L"
  | .bit_2_iHL => "BIT 2,(HL)"
  | .bit_2_A => "BIT 2,A"
  | .bit_3_B => "BIT 3,B"
  | .bit_3_C => "BIT 3,C"
  | .bit_3_D => "BIT 3,D"
  | .bit_3_E => "BIT 3,E"
  | .bit_3_H => "BIT 3,H"
  | .bit_3_L => "BIT 3,L"
  | .bit_3_iHL => "BIT 3,(HL)"
  | .bit_3_A => "BIT 3,A"
  | .bit_4_B => "BIT 4,B"
  | .bit_4_C => "BIT 4,C"
  | .bit_4_D => "BIT 4,D"
  | .bit_4_E => "BIT 4,E"
  | .bit_4_H => "BIT 4,H"
  | .bit_4_L => "BIT 4,L"
  | .bit_4_iHL => "BIT 4,(HL)"
  | .bit_4_A => "BIT 4,A"
  | .bit_5_B => "BIT 5,B"
  | .bit_5_C => "BIT 5,C"
  | .bit_5_D => "BIT 5,D"
  | .bit_5_E => "BIT 5,E"
  | .bit_5_H => "BIT 5,H"
  | .bit_5_L => "BIT 5,L"
  | .bit_5_iHL => "BIT 5,(HL)"
  | .bit_5_A => "BIT 5,A"
  | .bit_6_B => "BIT 6,B"
  | .bit_6_C => "BIT 6,C"
  | .bit_6_D => "BIT 6,D"
  | .bit_6_E => "BIT 6,E"
  | .bit_6_H => "BIT 6,H"
  | .bit_6_L => "BIT 6,L"
  | .bit_6_iHL => "BIT 6,(HL)"
  | .bit_6_A => "BIT 6,A"
  | .bit_7_B => "BIT 7,B"
  | .bit_7_C => "BIT 7,C"
  | .bit_7_D => "BIT 7,D"
  | .bit_7_E => "BIT 7,E"
  | .bit_7_H => "BIT 7,H"
  | .bit_7_L => "BIT 7,L"
  | .bit_7_iHL => "BIT 7,(HL)"
  | .bit_7_A => "BIT 7,A"
  | .res_0_B => "RES 0,B"
  | .res_0_C => "RES 0,C"
  | .res_0_D => "RES 0,D"
  | .res_0_E => "RES 0,E"
  | .res_0_H => "RES 0,H"
  | .res_0_L => "RES 0,L"
  | .res_0_iHL => "RES 0,(HL)"
  | .res_0_A => "RES 0,A"
  | .res_1_B => "RES 1,B"
  | .res_1_C => "RES 1,C"
  | .res_1_D => "RES 1,D"
  | .res_1_E => "RES 1,E"
  | .res_1_H => "RES 1,H"
  | .res_1_L => "RES 1,L"
  | .res_1_iHL => "RES 1,(HL)"
  | .res_1_A => "RES 1,A"
  | .res_2_B => "RES 2,B"
  | .res_2_C => "RES 2,C"
  | .res_2_D => "RES 2,D"
  | .res_2_E => "RES 2,E"
  | .res_2_H => "RES 2,H"
  | .res_2_L => "RES 2,L"
  | .res_2_iHL => "RES 2,(HL)"
  | .res_2_A => "RES 2,A"
  | .res_3_B => "RES 3,B"
  | .res_3_C => "RES 3,C"
  | .res_3_D => "RES 3,D"
  | .res_3_E => "RES 3,E"
  | .res_3_H => "RES 3,H"
  | .res_3_L => "RES 3,L"
  | .res_3_iHL => "RES 3,(HL)"
  | .res_3_A => "RES 3,A"
  | .res_4_B => "RES 4,B"
  | .res_4_C => "RES 4,C"
  | .res_4_D => "RES 4,D"
  | .res_4_E => "RES 4,E"
  | .res_4_H => "RES 4,H"
  | .res_4_L => "RES 4,L"
  | .res_4_iHL => "RES 4,(HL)"
  | .res_4_A => "RES 4,A"
  | .res_5_B => "RES 5,B"
  | .res_5_C => "RES 5,C"
  | .res_5_D => "RES 5,D"
  | .res_5_E => "RES 5,E"
  | .res_5_H => "RES 5,H"
  | .res_5_L => "RES 5,L"
  | .res_5_iHL => "RES 5,(HL)"
  | .res_5_A => "RES 5,A"
  | .res_6_B => "RES 6,B"
  | .res_6_C => "RES 6,C"
  | .res_6_D => "RES 6,D"
  | .res_6_E => "RES 6,E"
  | .res_6_H => "RES 6,H"
  | .res_6_L => "RES 6,L"
  | .res_6_iHL => "RES 6,(HL)"
  | .res_6_A => "RES 6,A"
  | .res_7_B => "RES 7,B"
  | .res_7_C => "RES 7,C"
  | .res_7_D => "RES 7,D"
  | .res_7_E => "RES 7,E"
  | .res_7_H => "RES 7,H"
  | .res_7_L => "RES 7,L"
  | .res_7_iHL => "RES 7,(HL)"
  | .res_7_A => "RES 7,A"
  | .set_0_B => "SET 0,B"
  | .set_0_C => "SET 0,C"
  | .set_0_D => "SET 0,D"
  | .set_0_E => "SET 0,E"
  | .set_0_H => "SET 0,H"
  | .set_0_L => "SET 0,L"
  | .set_0_iHL => "SET 0,(HL)"
  | .set_0_A => "SET 0,A"
  | .set_1_B => "SET 1,B"
  | .set_1_C => "SET 1,C"
  | .set_1_D => "SET 1,D"
  | .set_1_E => "SET 1,E"
  | .set_1_H => "SET 1,H"
  | .set_1_L => "SET 1,L"
  | .set_1_iHL => "SET 1,(HL)"
  | .set_1_A => "SET 1,A"
  | .set_2_B => "SET 2,B"
  | .set_2_C => "SET 2,C"
  | .set_2_D => "SET 2,D"
  | .set_2_E => "SET 2,E"
  | .set_2_H => "SET 2,H"
  | .set_2_L => "SET 2,L"
  | .set_2_iHL => "SET 2,(HL)"
  | .set_2_A => "SET 2,A"
  | .set_3_B => "SET 3,B"
  | .set_3_C => "SET 3,C"
  | .set_3_D => "SET 3,D"
  | .set_3_E => "SET 3,E"
  | .set_3_H => "SET 3,H"
  | .set_3_L => "SET 3,L"
  | .set_3_iHL => "SET 3,(HL)"
  | .set_3_A => "SET 3,A"
  | .set_4_B => "SET 4,B"
  | .set_4_C => "SET 4,C"
  | .set_4_D => "SET 4,D"
  | .set_4_E => "SET 4,E"
  | .set_4_H => "SET 4,H"
  | .set_4_L => "SET 4,L"
  | .set_4_iHL => "SET 4,(HL)"
  | .set_4_A => "SET 4,A"
  | .set_5_B => "SET 5,B"
  | .set_5_C => "SET 5,C"
  | .set_5_D => "SET 5,D"
  | .set_5_E => "SET 5,E"
  | .set_5_H => "SET 5,H"
  | .set_5_L => "SET 5,L"
  | .set_5_iHL => "SET 5,(HL)"
  | .set_5_A => "SET 5,A"
  | .set_6_B => "SET 6,B"
  | .set_6_C => "SET 6,C"
  | .set_6_D => "SET 6,D"
  | .set_6_E => "SET 6,E"
  | .set_6_H => "SET 6,H"
  | .set_6_L => "SET 6,L"
  | .set_6_iHL => "SET 6,(HL)"
  | .set_6_A => "SET 6,A"
  | .set_7_B => "SET 7,B"
  | .set_7_C => "SET 7,C"
  | .set_7_D => "SET 7,D"
  | .set_7_E => "SET 7,E"
  | .set_7_H => "SET 7,H"
  | .set_7_L => "SET 7,L"
  | .set_7_iHL => "SET 7,(HL)"
  | .set_7_A => "SET 7,A"

/-- Base M-cycles of the main table by first byte, row by row (R132); 0 stands for the cells without a count. -/
def mainCyclesTable : List (List Nat) := [
  [1, 3, 2, 2, 1, 1, 2, 1, 5, 2, 2, 2, 1, 1, 2, 1],
  [1, 3, 2, 2, 1, 1, 2, 1, 3, 2, 2, 2, 1, 1, 2, 1],
  [2, 3, 2, 2, 1, 1, 2, 1, 2, 2, 2, 2, 1, 1, 2, 1],
  [2, 3, 2, 2, 3, 3, 3, 1, 2, 2, 2, 2, 1, 1, 2, 1],
  [1, 1, 1, 1, 1, 1, 2, 1, 1, 1, 1, 1, 1, 1, 2, 1],
  [1, 1, 1, 1, 1, 1, 2, 1, 1, 1, 1, 1, 1, 1, 2, 1],
  [1, 1, 1, 1, 1, 1, 2, 1, 1, 1, 1, 1, 1, 1, 2, 1],
  [2, 2, 2, 2, 2, 2, 1, 2, 1, 1, 1, 1, 1, 1, 2, 1],
  [1, 1, 1, 1, 1, 1, 2, 1, 1, 1, 1, 1, 1, 1, 2, 1],
  [1, 1, 1, 1, 1, 1, 2, 1, 1, 1, 1, 1, 1, 1, 2, 1],
  [1, 1, 1, 1, 1, 1, 2, 1, 1, 1, 1, 1, 1, 1, 2, 1],
  [1, 1, 1, 1, 1, 1, 2, 1, 1, 1, 1, 1, 1, 1, 2, 1],
  [2, 3, 3, 4, 3, 4, 2, 4, 2, 4, 3, 0, 3, 6, 2, 4],
  [2, 3, 3, 0, 3, 4, 2, 4, 2, 4, 3, 0, 3, 0, 2, 4],
  [3, 3, 2, 0, 0, 4, 2, 4, 4, 1, 4, 0, 0, 0, 2, 4],
  [3, 3, 2, 1, 0, 4, 2, 4, 3, 2, 4, 1, 0, 0, 2, 4]]

/-- Base M-cycles of an instruction (R132, R136). -/
def baseCycles (i : Instr) : Nat :=
  match encode i with
  | [] => 0
  | [b0] => (mainCyclesTable.getD (b0.toNat / 16) []).getD (b0.toNat % 16) 0
  | b0 :: b1 :: _ =>
    if b0 = 0xCB then (if fieldZ b1 = .o6 then (if fieldX b1 = .q1 then 3 else 4) else 2)
    else (mainCyclesTable.getD (b0.toNat / 16) []).getD (b0.toNat % 16) 0

/-- The extra M-cycles of a conditional transfer that is taken: "+3 for taken CALL/RET, +1 for taken JP/JR" (R132). -/
def takenExtra : Instr → Option Nat
  | .jr_NZ_e _ | .jr_Z_e _ | .jr_NC_e _ | .jr_C_e _ => some 1
  | .jp_NZ_nn _ | .jp_Z_nn _ | .jp_NC_nn _ | .jp_C_nn _ => some 1
  | .call_NZ_nn _ | .call_Z_nn _ | .call_NC_nn _ | .call_C_nn _ => some 3
  | .ret_NZ | .ret_Z | .ret_NC | .ret_C => some 3
  | _ => none

end Sys2Proof
end

