-- ==== Sys2Proof/Machine/State.lean ====
section
/-! DEFINITION. The state of the machine, every field of 10_state.md R20 to R57, as plain data; the ways a run can stop; the state
right after reset (70_reset_and_hazards.md R520). -/

namespace Sys2Proof.Machine

/-! ## How the machine can stop -/

/-- The one fault of the machine (00_scope.md R13, 47_system.md R330). It is recorded in `State.fault` by the eleven unassigned
opcodes; a step does not answer with it, since the clock and the devices go on (R330, R368). Safe: it is what the spec says. -/
inductive Fault where
  /-- An unassigned opcode was executed (R31, R330). -/
  | illegalOpcode (op : Byte)
  deriving DecidableEq, Repr

/-- Why an action has no result. -/
inductive Refusal where
  /-- An instruction without a meaning in this model; raised by `exec` only. Safe. -/
  | notModelled (mnemonic : String)
  /-- `LoadFailure(Malformed)`: the host's `load` of an image that is too short or has a size code out of range
  (63_cartridge_mbc.md R473). No machine results. Safe. -/
  | loadMalformed
  /-- `LoadFailure(UnsupportedType(type))`: the host's `load` of an image with an unsupported type byte (R473). Safe. -/
  | loadUnsupportedType (type : Byte)
  deriving DecidableEq, Repr

/-! ## Memories -/

/-- A sparse array of `w`-bit cells by index. Canonical form: indices strictly rising, no listed cell equal to 0, which is what
an unlisted index reads as (20_memory.md; 10_state.md R36 to R39, R52, R54: every array is zero after reset). -/
abbrev Store (w : Nat) := List (Nat × BitVec w)

/-- A byte array: a list of `Host.Cell`s. -/
abbrev Memory := Store 8

/-! ## The devices -/

/-- The eight buttons, true = pressed, owned by the host (10_state.md R57). -/
structure Buttons where
  up : Bool
  down : Bool
  left : Bool
  right : Bool
  a : Bool
  b : Bool
  start : Bool
  select : Bool
  deriving DecidableEq, Repr

/-- The timer (10_state.md R43, R44). -/
structure Timer where
  div16 : Word
  tima : Byte
  tma : Byte
  tac : BitVec 3
  deriving DecidableEq, Repr

/-- The OAM DMA engine (10_state.md R45). -/
structure Dma where
  active : Bool
  page : Byte
  /-- Bytes already copied, 0..160. -/
  offset : Nat
  deriving DecidableEq, Repr

/-- The PPU's four modes (10_state.md R47, R51). -/
inductive PpuMode where
  | hblank | vblank | oamScan | drawPixels
  deriving DecidableEq, Repr

/-- The fetcher's four phases (10_state.md R51). -/
inductive FetchPhase where
  | tile | low | high | push
  deriving DecidableEq, Repr

/-- A sprite selected for the current line (10_state.md R51). -/
structure Candidate where
  y : Byte
  x : Byte
  tile : Byte
  attr : Byte
  index : Nat
  deriving DecidableEq, Repr

/-- The PPU: its registers, memories, internal fields and framebuffer (10_state.md R38, R39, R46 to R52; 62_ppu.md R446). -/
structure Ppu where
  vram : Memory
  oam : Memory
  lcdc : Byte
  /-- STAT[6:3], the four interrupt source enables (R47). -/
  statEnables : BitVec 4
  /-- STAT[2], latched (R47; 62_ppu.md R423). -/
  coincidence : Bool
  mode : PpuMode
  scy : Byte
  scx : Byte
  ly : Byte
  lyc : Byte
  bgp : Byte
  obp0 : Byte
  obp1 : Byte
  wy : Byte
  wx : Byte
  lineDot : Nat
  candidates : List Candidate
  spriteHeight : Nat
  fetchPhase : FetchPhase
  fetchCol : Nat
  tileNo : Byte
  dataLo : Byte
  dataHi : Byte
  /-- Front first. -/
  fifo : List (BitVec 2)
  discard : Nat
  lx : Nat
  winActive : Bool
  windowLine : Nat
  frameCount : Nat
  /-- The shade of row y, column x is the cell 160 × y + x. -/
  framebuffer : Store 2
  /-- The framebuffer at the most recent increment of `frameCount` (62_ppu.md R446). -/
  front : Store 2
  deriving DecidableEq, Repr

/-! ## The cartridge -/

/-- MBC1's bank registers (10_state.md R55). -/
structure Mbc1 where
  ramEnable : Bool
  bank5 : BitVec 5
  sec : BitVec 2
  mode : BitVec 1
  deriving DecidableEq, Repr

/-- MBC2's bank registers (10_state.md R55). -/
structure Mbc2 where
  ramEnable : Bool
  bank4 : BitVec 4
  deriving DecidableEq, Repr

/-- The real-time clock registers (10_state.md R56). -/
structure Rtc where
  s : Byte
  m : Byte
  h : Byte
  dl : Byte
  dh : Byte
  deriving DecidableEq, Repr

/-- MBC3's bank registers and its clock (10_state.md R55, R56). -/
structure Mbc3 where
  ramEnable : Bool
  bank7 : BitVec 7
  sel : BitVec 4
  latchPrev : Byte
  rtc : Rtc
  deriving DecidableEq, Repr

/-- The variant set is closed (63_cartridge_mbc.md R472). -/
inductive Mbc where
  | mbc0
  | mbc1 (r : Mbc1)
  | mbc2 (r : Mbc2)
  | mbc3 (r : Mbc3)
  deriving DecidableEq, Repr

/-- The cartridge: the ROM image (10_state.md R53, never written), what its header says (63_cartridge_mbc.md R471, R472), its RAM
(R54; one byte per cell also for MBC2, high nibble 0) and its MBC. -/
structure Cart where
  rom : Memory
  romLen : Nat
  romCode : Nat
  ramCode : Nat
  battery : Bool
  /-- The cartridge type has a real-time clock. -/
  timer : Bool
  cram : Memory
  mbc : Mbc
  deriving DecidableEq, Repr

/-! ## The machine -/

/-- The complete state (10_state.md R59), and the model's own three fields at the end. -/
structure State where
  a : Byte
  f : Byte
  b : Byte
  c : Byte
  d : Byte
  e : Byte
  h : Byte
  l : Byte
  sp : Word
  pc : Word
  ime : Bool
  imeEnabling : Bool
  halted : Bool
  cyclesLeft : Nat
  fault : Option Fault
  ie : Byte
  /-- IF[4:0] (R34). -/
  ifReg : BitVec 5
  ticks : Nat
  wram : Memory
  hram : Memory
  joypSelect : BitVec 2
  buttons : Buttons
  sb : Byte
  sc : Byte
  timer : Timer
  dma : Dma
  ppu : Ppu
  cart : Cart
  /-- MODEL'S OWN (log entry 5): how many `HostClockSeconds()` draws have been made. -/
  clockDraws : Nat
  /-- MODEL'S OWN (log entry 6): how many `Persist()` events have been emitted. -/
  persists : Nat
  /-- MODEL'S OWN (log entry 6): what the last `Persist()` event carried. -/
  saved : Option Memory
  deriving DecidableEq, Repr

/-! ## Reset -/

/-- All buttons released (R57). -/
def Buttons.released : Buttons := ⟨false, false, false, false, false, false, false, false⟩

/-- The PPU after reset (R520). -/
def Ppu.reset : Ppu where
  vram := []
  oam := []
  lcdc := Config.resetLCDC
  statEnables := 0
  coincidence := false
  mode := .oamScan
  scy := 0
  scx := 0
  ly := 0
  lyc := 0
  bgp := Config.resetBGP
  obp0 := Config.resetOBP0
  obp1 := Config.resetOBP1
  wy := 0
  wx := 0
  lineDot := 0
  candidates := []
  spriteHeight := 8
  fetchPhase := .tile
  fetchCol := 0
  tileNo := 0
  dataLo := 0
  dataHi := 0
  fifo := []
  discard := 0
  lx := 0
  winActive := false
  windowLine := 0
  frameCount := 0
  framebuffer := []
  front := []

/-- MBC1's registers after reset (R55). -/
def Mbc1.reset : Mbc1 := ⟨false, 1, 0, 0⟩

/-- MBC2's registers after reset (R55). -/
def Mbc2.reset : Mbc2 := ⟨false, 1⟩

/-- MBC3's registers and its clock after reset (R55, R56). -/
def Mbc3.reset : Mbc3 := ⟨false, 1, 0, 0xFF, ⟨0, 0, 0, 0, 0⟩⟩

/-- The MBC's registers at their reset values (R511). -/
def Mbc.reset : Mbc → Mbc
  | .mbc0 => .mbc0
  | .mbc1 _ => .mbc1 Mbc1.reset
  | .mbc2 _ => .mbc2 Mbc2.reset
  | .mbc3 _ => .mbc3 Mbc3.reset

/-- The machine right after reset with this cartridge in it (R520). -/
def State.ofCart (cart : Cart) : State where
  a := Config.resetA
  f := Config.resetF
  b := Config.resetB
  c := Config.resetC
  d := Config.resetD
  e := Config.resetE
  h := Config.resetH
  l := Config.resetL
  sp := Config.resetSP
  pc := Config.resetPC
  ime := false
  imeEnabling := false
  halted := false
  cyclesLeft := 0
  fault := none
  ie := Config.resetIE
  ifReg := Config.resetIF
  ticks := 0
  wram := []
  hram := []
  joypSelect := Config.resetJoypSelect
  buttons := Buttons.released
  sb := Config.resetSB
  sc := Config.resetSC
  timer := ⟨Config.resetDiv16, Config.resetTIMA, Config.resetTMA, Config.resetTAC⟩
  dma := ⟨false, Config.resetDmaPage, 0⟩
  ppu := Ppu.reset
  cart := cart
  clockDraws := 0
  persists := 0
  saved := none

/-- The cartridge of `State.reset`: a 32 KiB image of zero bytes, whose header therefore says MBC0 without battery. DESIGN CHOICE
(log entry 2): the image is the host's (R53), and no program is put into it. -/
def Cart.blank : Cart where
  rom := []
  romLen := 32768
  romCode := 0
  ramCode := 0
  battery := false
  timer := false
  cram := []
  mbc := .mbc0

/-- The machine right after reset (R520) with the blank cartridge. -/
def State.reset : State := State.ofCart Cart.blank

end Sys2Proof.Machine
end

