-- ==== Sys2Proof/Machine/Store.lean ====
section
/-! DEFINITION. Reading and writing one cell of a sparse array, and its canonical form. -/

namespace Sys2Proof.Machine

/-- What a cell that nothing has written reads as: 0 (10_state.md R36 to R39, R52, R54: every array is zero after reset). -/
def unlistedCell (w : Nat) : BitVec w := 0

/-- The cell at index `a`. -/
def Store.read {w : Nat} : Store w → Nat → BitVec w
  | [], _ => unlistedCell w
  | (k, v) :: rest, a => if k = a then v else Store.read rest a

/-- The array without any entry at index `a`. -/
def Store.erase {w : Nat} : Store w → Nat → Store w
  | [], _ => []
  | (k, v) :: rest, a => if k = a then Store.erase rest a else (k, v) :: Store.erase rest a

/-- The array with the entry `(a, v)` put at its place in rising order. -/
def Store.insert {w : Nat} : Store w → Nat → BitVec w → Store w
  | [], a, v => [(a, v)]
  | (k, u) :: rest, a, v => if a < k then (a, v) :: (k, u) :: rest else (k, u) :: Store.insert rest a v

/-- The array after a write; writing what an unlisted cell reads as removes the entry. -/
def Store.write {w : Nat} (m : Store w) (a : Nat) (v : BitVec w) : Store w :=
  if v = unlistedCell w then Store.erase m a else Store.insert (Store.erase m a) a v

/-- The canonical form: indices strictly rising, no listed cell equal to what an unlisted one reads as. -/
def Store.wf {w : Nat} : Store w → Bool
  | [] => true
  | [(_, v)] => v != unlistedCell w
  | (k, v) :: (k', v') :: rest => v != unlistedCell w && (k < k' && Store.wf ((k', v') :: rest))

/-- The canonical form of a byte array. -/
def Memory.wf (m : Memory) : Bool := Store.wf m

/-- Every listed index is below `n`. -/
def Store.below {w : Nat} (n : Nat) (m : Store w) : Bool := m.all fun c => c.1 < n

/-- The byte array that holds these bytes from index `start` on. -/
def Memory.ofBytes : Nat → List Byte → Memory
  | _, [] => []
  | start, v :: rest =>
    if v = unlistedCell 8 then Memory.ofBytes (start + 1) rest else (start, v) :: Memory.ofBytes (start + 1) rest

end Sys2Proof.Machine
end

