-- ==== Sys2Proof/Machine/Cartridge.lean ====
section
/-! DEFINITION. The cartridge: sizes, `RomByte`, and the four MBCs' `CartRead` and `CartWrite` (63_cartridge_mbc.md R470 to
R511). -/

namespace Sys2Proof.Machine

/-! ## Sizes (R471) -/

/-- `rom_size = 32768 << rom_code`. -/
def romSize (k : Cart) : Nat := 32768 * 2 ^ k.romCode

/-- "RAM size by code: {0, 0, 8KiB, 32KiB, 128KiB, 64KiB}". -/
def ramSizeOfCode (code : Nat) : Nat :=
  match code with
  | 2 => 8192
  | 3 => 32768
  | 4 => 131072
  | 5 => 65536
  | _ => 0

/-- `ram_size`, with the overrides of MBC0 (R475) and MBC2 (R490, 512 cells). -/
def ramSize (k : Cart) : Nat :=
  match k.mbc with
  | .mbc0 => 8192
  | .mbc1 _ => ramSizeOfCode k.ramCode
  | .mbc2 _ => 512
  | .mbc3 _ => ramSizeOfCode k.ramCode

/-- `RomByte(off)`: beyond the declared size or the image's real length it reads 0xFF (R471, D50). -/
def romByte (k : Cart) (off : Nat) : Byte :=
  if off < romSize k ∧ off < k.romLen then Store.read k.rom off else 0xFF

/-! ## Decode common to the variants (R474) -/

/-- "RAM-bank-enable is a magic nibble comparison (0xA enables)". -/
def enablesRam (v : Byte) : Bool := v &&& 0x0F = 0x0A

/-- "bank-number-zero is remapped to bank 1", applied to the masked field. -/
def remapZero {w : Nat} (bank : BitVec w) : BitVec w := if bank = 0 then 1 else bank

/-- `Persist()` after a stored RAM write, on battery types only (R510): what one bus write does to the cartridge, and whether it
emits the event. -/
structure CartStep where
  cart : Cart
  persist : Bool
  /-- One `HostClockSeconds()` draw was made (R502). -/
  drew : Bool
  deriving DecidableEq, Repr

/-- A write that only changes MBC registers, or nothing. -/
def CartStep.quiet (k : Cart) : CartStep := ⟨k, false, false⟩

/-- A write that stores into `cram`. -/
def CartStep.stored (k : Cart) (off : Nat) (v : Byte) : CartStep :=
  ⟨{ k with cram := Store.write k.cram off v }, k.battery, false⟩

/-! ## The ROM window -/

/-- The offset into the image that a ROM address reads (R475, R481, R490, R500); `a` < 0x8000. Addresses below 0x4000 read bank
0 in every variant. -/
def romOffset (mbc : Mbc) (a : Nat) : Nat :=
  if a < 0x4000 then a
  else
    match mbc with
    | .mbc0 => a
    | .mbc1 r => 0x4000 * ((if r.mode = 0 then r.sec.toNat * 32 else 0) ||| r.bank5.toNat) + (a - 0x4000)
    | .mbc2 r => 0x4000 * r.bank4.toNat + (a - 0x4000)
    | .mbc3 r => 0x4000 * r.bank7.toNat + (a - 0x4000)

/-! ## Bank registers -/

/-- `RtcLatch()` with `HostClockSeconds()` = `t`; with the halt bit set the registers keep their values (R502). -/
def rtcLatch (t : Nat) (r : Rtc) : Rtc :=
  if r.dh.getLsbD 6 then r
  else
    let days := t / 86400
    { s := BitVec.ofNat 8 (t % 60)
      m := BitVec.ofNat 8 (t / 60 % 60)
      h := BitVec.ofNat 8 (t / 3600 % 24)
      dl := BitVec.ofNat 8 (days % 256)
      dh := (r.dh &&& 0xC0) ||| BitVec.ofNat 8 (days / 256 % 2) ||| (if 512 ≤ days then 0x80 else 0x00) }

/-- A latch draws the host's clock unless the halt bit is set (R502). -/
def rtcDraws (r : Rtc) : Bool := !r.dh.getLsbD 6

/-- MBC1's registers after a write to 0x0000 to 0x7FFF (R480). -/
def mbc1Write (a : Nat) (v : Byte) (r : Mbc1) : Mbc1 :=
  if a < 0x2000 then { r with ramEnable := enablesRam v }
  else if a < 0x4000 then { r with bank5 := remapZero (v.extractLsb' 0 5) }
  else if a < 0x6000 then { r with sec := v.extractLsb' 0 2 }
  else { r with mode := v.extractLsb' 0 1 }

/-- MBC2's registers after a write to 0x0000 to 0x7FFF: address bit 8 chooses the register (R490, D35). -/
def mbc2Write (a : Nat) (v : Byte) (r : Mbc2) : Mbc2 :=
  if a < 0x4000 then
    if a.testBit 8 then { r with bank4 := remapZero (v.extractLsb' 0 4) } else { r with ramEnable := enablesRam v }
  else r

/-- Does a write to the latch window latch the clock? "a latch-on-0-then-1 write sequence" (R500, R502). -/
def latches (timer : Bool) (v : Byte) (r : Mbc3) : Bool := timer && (r.latchPrev == 0x00 && v == 0x01)

/-- MBC3's registers after a write to 0x0000 to 0x7FFF; `t` answers the draw (R500, R502). -/
def mbc3Write (timer : Bool) (t : Nat) (a : Nat) (v : Byte) (r : Mbc3) : Mbc3 :=
  if a < 0x2000 then { r with ramEnable := enablesRam v }
  else if a < 0x4000 then { r with bank7 := remapZero (v.extractLsb' 0 7) }
  else if a < 0x6000 then { r with sel := v.extractLsb' 0 4 }
  else { r with rtc := if latches timer v r then rtcLatch t r.rtc else r.rtc, latchPrev := v }

/-- Does this write draw the host's clock? -/
def mbc3Draws (timer : Bool) (a : Nat) (v : Byte) (r : Mbc3) : Bool :=
  decide (0x6000 ≤ a) && (latches timer v r && rtcDraws r.rtc)

/-! ## The RAM window, 0xA000 to 0xBFFF; `o` is the address less 0xA000 -/

/-- MBC1's offset into `cram` (R482). -/
def mbc1RamOffset (r : Mbc1) (o : Nat) : Nat := 0x2000 * (if r.mode = 1 then r.sec.toNat else 0) + o

/-- The cell of `cram` that an address of the RAM window names under the current banking, if it names one (R475, R482, R490,
R501). -/
def cramCell (k : Cart) (o : Nat) : Option Nat :=
  match k.mbc with
  | .mbc0 => some o
  | .mbc1 r =>
    if r.ramEnable = true ∧ mbc1RamOffset r o < ramSize k then some (mbc1RamOffset r o) else none
  | .mbc2 r => if r.ramEnable then some (o % 512) else none
  | .mbc3 r =>
    if r.ramEnable = true ∧ r.sel.toNat < 4 ∧ 0x2000 * r.sel.toNat + o < ramSize k then some (0x2000 * r.sel.toNat + o)
    else none

/-- The clock registers an MBC3 select code can name (R501). -/
inductive RtcReg where
  | s | m | h | dl | dh
  deriving DecidableEq, Repr

/-- The clock register that the RAM window shows, if any (R501): only with RAM enabled and a timer. -/
def rtcSelected (k : Cart) : Option RtcReg :=
  match k.mbc with
  | .mbc3 r =>
    if r.ramEnable = true ∧ k.timer = true then
      match r.sel.toNat with
      | 0x08 => some .s
      | 0x09 => some .m
      | 0x0A => some .h
      | 0x0B => some .dl
      | 0x0C => some .dh
      | _ => none
    else none
  | _ => none

/-- Reading a clock register. -/
def rtcRead (g : RtcReg) (r : Rtc) : Byte :=
  match g with
  | .s => r.s
  | .m => r.m
  | .h => r.h
  | .dl => r.dl
  | .dh => r.dh

/-- Writing a clock register, with R501's masks. -/
def rtcWrite (g : RtcReg) (v : Byte) (r : Rtc) : Rtc :=
  match g with
  | .s => { r with s := v &&& 0x3F }
  | .m => { r with m := v &&& 0x3F }
  | .h => { r with h := v &&& 0x1F }
  | .dl => { r with dl := v }
  | .dh => { r with dh := v &&& 0xC1 }

/-- The clock registers of a cartridge, zero where it has none. -/
def rtcOf (k : Cart) : Rtc :=
  match k.mbc with
  | .mbc3 r => r.rtc
  | _ => ⟨0, 0, 0, 0, 0⟩

/-- What a `cram` cell reads as through the window: MBC2's "nibble values read back with high nibble forced to 1" (R490). -/
def cramReadMask (mbc : Mbc) (v : Byte) : Byte :=
  match mbc with
  | .mbc2 _ => 0xF0 ||| v
  | _ => v

/-- What is stored into a `cram` cell: MBC2 keeps the low nibble (R490). -/
def cramWriteMask (mbc : Mbc) (v : Byte) : Byte :=
  match mbc with
  | .mbc2 _ => v &&& 0x0F
  | _ => v

/-! ## `CartRead` and `CartWrite` -/

/-- `CartRead(a)` for `a` in 0x0000 to 0x7FFF or 0xA000 to 0xBFFF. -/
def cartRead (k : Cart) (a : Nat) : Byte :=
  if a < 0x8000 then romByte k (romOffset k.mbc a)
  else
    match cramCell k (a - 0xA000) with
    | some off => cramReadMask k.mbc (Store.read k.cram off)
    | none =>
      match rtcSelected k with
      | some g => rtcRead g (rtcOf k)
      | none => 0xFF

/-- A cartridge with other MBC registers. -/
def withMbc (k : Cart) (mbc : Mbc) : Cart := { k with mbc := mbc }

/-- `CartWrite(a, v)` for `a` in 0x0000 to 0x7FFF: the variant's bank registers. `t` answers the draw of a latch. -/
def romAreaWrite (t : Nat) (k : Cart) (a : Nat) (v : Byte) : CartStep :=
  match k.mbc with
  | .mbc0 => .quiet k
  | .mbc1 r => .quiet (withMbc k (.mbc1 (mbc1Write a v r)))
  | .mbc2 r => .quiet (withMbc k (.mbc2 (mbc2Write a v r)))
  | .mbc3 r => ⟨withMbc k (.mbc3 (mbc3Write k.timer t a v r)), false, mbc3Draws k.timer a v r⟩

/-- Writing the selected clock register (R501). -/
def rtcAreaWrite (k : Cart) (g : RtcReg) (v : Byte) : Cart :=
  match k.mbc with
  | .mbc3 r => withMbc k (.mbc3 { r with rtc := rtcWrite g v r.rtc })
  | _ => k

/-- `CartWrite(a, v)`. `t` is the host's answer should the write draw one. -/
def cartWrite (t : Nat) (k : Cart) (a : Nat) (v : Byte) : CartStep :=
  if a < 0x8000 then romAreaWrite t k a v
  else
    match cramCell k (a - 0xA000) with
    | some off => .stored k off (cramWriteMask k.mbc v)
    | none =>
      match rtcSelected k with
      | some g => .quiet (rtcAreaWrite k g v)
      | none => .quiet k

end Sys2Proof.Machine
end

