-- ==== Sys2Proof/Machine/Ops.lean ====
section
/-! DEFINITION. The named operations over registers and memory: register and pair access, the bus (20_memory.md), the stack
primitives (00_scope.md R9, R11), taking an interrupt and returning from one (60_exceptions.md R343, 46_control.md R310). -/

namespace Sys2Proof.Machine

/-! ## Registers (10_state.md R20, 30_encoding.md R123) -/

/-- `r8[i]`, read. -/
def getR8 (r : R8) (s : State) : Byte :=
  match r with
  | .b => s.b
  | .c => s.c
  | .d => s.d
  | .e => s.e
  | .h => s.h
  | .l => s.l
  | .a => s.a

/-- `r8[i]`, written. -/
def setR8 (r : R8) (v : Byte) (s : State) : State :=
  match r with
  | .b => { s with b := v }
  | .c => { s with c := v }
  | .d => { s with d := v }
  | .e => { s with e := v }
  | .h => { s with h := v }
  | .l => { s with l := v }
  | .a => { s with a := v }

/-- Writing F: "its low 4 bits are always zero and must be masked to zero on every write" (R23). -/
def setF (v : Byte) (s : State) : State := { s with f := v &&& 0xF0 }

/-- AF, BC, DE, HL as 16-bit values (00_scope.md R8). -/
def regAF (s : State) : Word := wordOf s.a s.f
def regBC (s : State) : Word := wordOf s.b s.c
def regDE (s : State) : Word := wordOf s.d s.e
def regHL (s : State) : Word := wordOf s.h s.l

/-- Writing HL writes both halves. -/
def setHL (v : Word) (s : State) : State := { s with h := hiByte v, l := loByte v }

/-- `r16[p]`, read. -/
def getPair (p : R16) (s : State) : Word :=
  match p with
  | .bc => regBC s
  | .de => regDE s
  | .hl => regHL s
  | .sp => s.sp

/-- `r16[p]`, written. -/
def setPair (p : R16) (v : Word) (s : State) : State :=
  match p with
  | .bc => { s with b := hiByte v, c := loByte v }
  | .de => { s with d := hiByte v, e := loByte v }
  | .hl => setHL v s
  | .sp => { s with sp := v }

/-- `r16stk[p]`, read. -/
def getStk (p : R16Stk) (s : State) : Word :=
  match p with
  | .bc => regBC s
  | .de => regDE s
  | .hl => regHL s
  | .af => regAF s

/-- `r16stk[p]`, written; AF's low nibble is masked (41_load16_stack.md R187). -/
def setStk (p : R16Stk) (v : Word) (s : State) : State :=
  match p with
  | .bc => { s with b := hiByte v, c := loByte v }
  | .de => { s with d := hiByte v, e := loByte v }
  | .hl => setHL v s
  | .af => setF (loByte v) { s with a := hiByte v }

/-! ## Flags (10_state.md R23) -/

/-- Z = F[7]. -/
def flagZ (s : State) : Bool := s.f.getLsbD 7

/-- N = F[6]. -/
def flagN (s : State) : Bool := s.f.getLsbD 6

/-- Hf = F[5]. -/
def flagH (s : State) : Bool := s.f.getLsbD 5

/-- Cf = F[4]. -/
def flagC (s : State) : Bool := s.f.getLsbD 4

/-- The byte with these flags at bits 7, 6, 5, 4 and a low nibble of 0. -/
def flagByte (z n h c : Bool) : Byte :=
  BitVec.ofNat 8 (128 * z.toNat + 64 * n.toNat + 32 * h.toNat + 16 * c.toNat)

/-- `Flags(z, n, h, c)` (00_scope.md R12); a flag that stays is passed in as it is. -/
def setFlags (z n h c : Bool) (s : State) : State := setF (flagByte z n h c) s

/-! ## The bus (20_memory.md) -/

/-- The ten regions of the address map (R71). -/
inductive Region where
  | cartRom | vram | cartRam | wram | echo | oam | unusable | io | hram | ie
  deriving DecidableEq, Repr

/-- "every address maps to exactly one owning subsystem; no overlap" (R71). -/
def regionOf (a : Word) : Region :=
  let n := a.toNat
  if n < 0x8000 then .cartRom
  else if n < 0xA000 then .vram
  else if n < 0xC000 then .cartRam
  else if n < 0xE000 then .wram
  else if n < 0xFE00 then .echo
  else if n < 0xFEA0 then .oam
  else if n < 0xFF00 then .unusable
  else if n < 0xFF80 then .io
  else if n < 0xFFFF then .hram
  else .ie

/-- The I/O registers (10_state.md R40). -/
inductive IoReg where
  | joyp | sb | sc | div | tima | tma | tac | ifr | lcdc | stat | scy | scx | ly | lyc | dma | bgp | obp0 | obp1 | wy | wx
  deriving DecidableEq, Repr

/-- The register at the address 0xFF00 + `off` of the I/O page, if any; the others are unmapped (R80, R84). -/
def ioRegAt (off : Byte) : Option IoReg :=
  match off.toNat with
  | 0x00 => some .joyp
  | 0x01 => some .sb
  | 0x02 => some .sc
  | 0x04 => some .div
  | 0x05 => some .tima
  | 0x06 => some .tma
  | 0x07 => some .tac
  | 0x0F => some .ifr
  | 0x40 => some .lcdc
  | 0x41 => some .stat
  | 0x42 => some .scy
  | 0x43 => some .scx
  | 0x44 => some .ly
  | 0x45 => some .lyc
  | 0x46 => some .dma
  | 0x47 => some .bgp
  | 0x48 => some .obp0
  | 0x49 => some .obp1
  | 0x4A => some .wy
  | 0x4B => some .wx
  | _ => none

/-- `JoypRead()` (61_timer_dma_io.md R400): a bit is 0 when a pressed button of a selected group drives it. -/
def joypRead (sel : BitVec 2) (k : Buttons) : Byte :=
  let dir := !sel.getLsbD 0
  let act := !sel.getLsbD 1
  let bit (d a : Bool) (n : Nat) : Nat := if (dir && d) || (act && a) then 0 else n
  BitVec.ofNat 8 (0xC0 + 16 * sel.toNat + bit k.right k.a 1 + bit k.left k.b 2 + bit k.up k.select 4 + bit k.down k.start 8)

/-- STAT's mode numbers (10_state.md R47). -/
def modeNumber : PpuMode → Nat
  | .hblank => 0
  | .vblank => 1
  | .oamScan => 2
  | .drawPixels => 3

/-- STAT as read: bit 7 is 1, then the enables, the latched coincidence and the mode (R80). -/
def statRead (p : Ppu) : Byte :=
  BitVec.ofNat 8 (0x80 + 8 * p.statEnables.toNat + 4 * p.coincidence.toNat + modeNumber p.mode)

/-- Reading an I/O register (R80). -/
def ioRead (g : IoReg) (s : State) : Byte :=
  match g with
  | .joyp => joypRead s.joypSelect s.buttons
  | .sb => s.sb
  | .sc => s.sc
  | .div => hiByte s.timer.div16
  | .tima => s.timer.tima
  | .tma => s.timer.tma
  | .tac => 0xF8 ||| s.timer.tac.setWidth 8
  | .ifr => 0xE0 ||| s.ifReg.setWidth 8
  | .lcdc => s.ppu.lcdc
  | .stat => statRead s.ppu
  | .scy => s.ppu.scy
  | .scx => s.ppu.scx
  | .ly => s.ppu.ly
  | .lyc => s.ppu.lyc
  | .dma => s.dma.page
  | .bgp => s.ppu.bgp
  | .obp0 => s.ppu.obp0
  | .obp1 => s.ppu.obp1
  | .wy => s.ppu.wy
  | .wx => s.ppu.wx

/-- `DmaStart(v)` (61_timer_dma_io.md R390). -/
def dmaStart (v : Byte) (s : State) : State := { s with dma := { active := true, page := v, offset := 0 } }

/-- Writing an I/O register (R81). -/
def ioWrite (g : IoReg) (v : Byte) (s : State) : State :=
  match g with
  | .joyp => { s with joypSelect := v.extractLsb' 4 2 }
  | .sb => { s with sb := v }
  | .sc => { s with sc := v }
  | .div => { s with timer := { s.timer with div16 := 0 } }
  | .tima => { s with timer := { s.timer with tima := v } }
  | .tma => { s with timer := { s.timer with tma := v } }
  | .tac => { s with timer := { s.timer with tac := v.extractLsb' 0 3 } }
  | .ifr => { s with ifReg := v.extractLsb' 0 5 }
  | .lcdc => { s with ppu := { s.ppu with lcdc := v } }
  | .stat => { s with ppu := { s.ppu with statEnables := v.extractLsb' 3 4 } }
  | .scy => { s with ppu := { s.ppu with scy := v } }
  | .scx => { s with ppu := { s.ppu with scx := v } }
  | .ly => s
  | .lyc => { s with ppu := { s.ppu with lyc := v } }
  | .dma => dmaStart v s
  | .bgp => { s with ppu := { s.ppu with bgp := v } }
  | .obp0 => { s with ppu := { s.ppu with obp0 := v } }
  | .obp1 => { s with ppu := { s.ppu with obp1 := v } }
  | .wy => { s with ppu := { s.ppu with wy := v } }
  | .wx => { s with ppu := { s.ppu with wx := v } }

/-- A bus read with the DMA mask on VRAM and OAM as given (R72, R74 to R84). It changes nothing (R90). -/
def readWithMask (masked : Bool) (a : Word) (s : State) : Byte :=
  match regionOf a with
  | .cartRom => cartRead s.cart a.toNat
  | .vram => if masked then 0xFF else Store.read s.ppu.vram (a.toNat - 0x8000)
  | .cartRam => cartRead s.cart a.toNat
  | .wram => Store.read s.wram (a.toNat - 0xC000)
  | .echo => Store.read s.wram (a.toNat - 0xE000)
  | .oam => if masked then 0xFF else Store.read s.ppu.oam (a.toNat - 0xFE00)
  | .unusable => 0x00
  | .io =>
    match ioRegAt (loByte a) with
    | some g => ioRead g s
    | none => 0xFF
  | .hram => Store.read s.hram (a.toNat - 0xFF80)
  | .ie => s.ie

/-- `BusRead(a)` (R72): VRAM and OAM are masked while a DMA transfer is active (R75, R78). -/
def busRead (a : Word) (s : State) : Byte := readWithMask s.dma.active a s

/-- `RawRead(a)`: the DMA engine's read, without the mask (R86). -/
def rawRead (a : Word) (s : State) : Byte := readWithMask false a s

/-- What a cartridge write does to the machine: the cartridge, the draw it made, the `Persist()` event it emitted. -/
def applyCart (o : CartStep) (s : State) : State :=
  { s with
    cart := o.cart
    clockDraws := if o.drew then s.clockDraws + 1 else s.clockDraws
    persists := if o.persist then s.persists + 1 else s.persists
    saved := if o.persist then some o.cart.cram else s.saved }

/-- `CartWrite(a, v)` on the machine; a latch draws the next free clock value (63_cartridge_mbc.md R502). -/
def cartWriteBus (a : Nat) (v : Byte) (s : State) : State :=
  applyCart (cartWrite (Config.hostClockSeconds s.clockDraws) s.cart a v) s

/-- `BusWrite(a, v)` (R73 to R84). -/
def busWrite (a : Word) (v : Byte) (s : State) : State :=
  match regionOf a with
  | .cartRom => cartWriteBus a.toNat v s
  | .vram =>
    if s.dma.active then s
    else { s with ppu := { s.ppu with vram := Store.write s.ppu.vram (a.toNat - 0x8000) v } }
  | .cartRam => cartWriteBus a.toNat v s
  | .wram => { s with wram := Store.write s.wram (a.toNat - 0xC000) v }
  | .echo => { s with wram := Store.write s.wram (a.toNat - 0xE000) v }
  | .oam =>
    if s.dma.active then s
    else { s with ppu := { s.ppu with oam := Store.write s.ppu.oam (a.toNat - 0xFE00) v } }
  | .unusable => s
  | .io =>
    match ioRegAt (loByte a) with
    | some g => ioWrite g v s
    | none => s
  | .hram => { s with hram := Store.write s.hram (a.toNat - 0xFF80) v }
  | .ie => { s with ie := v }

/-- `MemRead(a, 2)`: low byte first, a + 1 wraps (00_scope.md R9). -/
def busRead16 (a : Word) (s : State) : Word := wordOf (busRead (a + 1) s) (busRead a s)

/-- `MemWrite(a, 2, v)`: low byte first (00_scope.md R9). -/
def busWrite16 (a v : Word) (s : State) : State := busWrite (a + 1) (hiByte v) (busWrite a (loByte v) s)

/-! ## The stack (00_scope.md R11) -/

/-- `Push16(v)`: SP decremented, high byte written, SP decremented, low byte written. -/
def push16 (v : Word) (s : State) : State :=
  let s := { s with sp := s.sp - 1 }
  let s := busWrite s.sp (hiByte v) s
  let s := { s with sp := s.sp - 1 }
  busWrite s.sp (loByte v) s

/-- The value `Pop16()` returns: the low byte at SP, the high byte above it. -/
def popValue (s : State) : Word := busRead16 s.sp s

/-- The state after `Pop16()`. -/
def popState (s : State) : State := { s with sp := s.sp + 2 }

/-! ## Ending an instruction -/

/-- PC moved past `n` bytes of the instruction stream, mod 2^16 (00_scope.md R10, 10_state.md R25). -/
def skip (n : Nat) (s : State) : State := { s with pc := s.pc + BitVec.ofNat 16 n }

/-- A step that returns `cycles` M-cycles (20_memory.md R101): the next state with that many left to burn. -/
def done (cycles : Nat) (s : State) : Host.Outcome State Fault Refusal := .next { s with cyclesLeft := cycles }

/-! ## Interrupts (60_exceptions.md) -/

/-- The five sources in priority order, bit 0 first (10_state.md R33, R344). -/
inductive IntSource where
  | vblank | lcdStat | timer | serial | joypad
  deriving DecidableEq, Repr

/-- The bit of IE and IF that stands for a source. -/
def sourceBit : IntSource → Nat
  | .vblank => 0
  | .lcdStat => 1
  | .timer => 2
  | .serial => 3
  | .joypad => 4

/-- A source's vector: 0x0040 + 8 × i (R342). -/
def vectorOf (i : IntSource) : Word := BitVec.ofNat 16 (0x40 + 8 * sourceBit i)

/-- IF with a source's bit set: a device's request (R345). -/
def requestBit (i : IntSource) : BitVec 5 := BitVec.ofNat 5 (2 ^ sourceBit i)

/-- `pend`: IE & IF & 0x1F, read through the bus (R340, R341). -/
def pending (s : State) : Byte := busRead 0xFFFF s &&& busRead 0xFF0F s &&& 0x1F

/-- The lowest set bit of the pending set, as a source (R344). -/
def highestPriority (pend : Byte) : Option IntSource :=
  if pend.getLsbD 0 then some .vblank
  else if pend.getLsbD 1 then some .lcdStat
  else if pend.getLsbD 2 then some .timer
  else if pend.getLsbD 3 then some .serial
  else if pend.getLsbD 4 then some .joypad
  else none

/-- Taking an interrupt (R343): IF[i], IME and the delayed enable are cleared, PC is pushed high byte first, PC is the vector. The
source was chosen before the push and is not looked at again (D47). -/
def takeInterrupt (i : IntSource) (s : State) : State :=
  let s := { s with ifReg := s.ifReg &&& ~~~ requestBit i, ime := false, imeEnabling := false }
  let s := push16 s.pc s
  { s with pc := vectorOf i }

/-- Returning from an interrupt (46_control.md R310): PC is popped, IME is 1 at once, a pending delayed enable is cleared. -/
def returnFromInterrupt (s : State) : State :=
  { popState s with pc := popValue s, ime := true, imeEnabling := false }

/-- The record of an unassigned opcode (47_system.md R330). -/
def raiseIllegal (op : Byte) (s : State) : State := { s with fault := some (.illegalOpcode op) }

end Sys2Proof.Machine
end

