-- ==== Sys2Proof/Machine/Operands.lean ====
section
/-! DEFINITION. The operand forms of 30_encoding.md R124, read and written, and the conditions of R123. -/

namespace Sys2Proof.Machine

/-- An 8-bit operand descriptor (R124), its immediate bytes already fetched. -/
inductive Operand8 where
  /-- `n`: immediate 8-bit; not writable. -/
  | imm (n : Byte)
  /-- `A B C D E H L`: register-direct. -/
  | reg (r : R8)
  /-- `(BC) (DE) (HL)`: register-indirect. -/
  | ind (p : R16)
  /-- `(HL+)`. -/
  | hlInc
  /-- `(HL-)`. -/
  | hlDec
  /-- `(n)` with LDH: indirect-via-immediate-8. -/
  | high (n : Byte)
  /-- `(C)`: indirect-via-register-8. -/
  | highC
  /-- `(nn)`: indirect-via-immediate-16. -/
  | abs (nn : Word)
  deriving DecidableEq, Repr

/-- The high-page address 0xFF00 + n, never wrapping (R125). -/
def highPage (n : Byte) : Word := wordOf 0xFF n

/-- The address an operand in memory names, none for an immediate or a register (R124). The auto-modifying forms use HL's value
from before the change. -/
def operandAddr (o : Operand8) (s : State) : Option Word :=
  match o with
  | .imm _ => none
  | .reg _ => none
  | .ind p => some (getPair p s)
  | .hlInc => some (regHL s)
  | .hlDec => some (regHL s)
  | .high n => some (highPage n)
  | .highC => some (highPage s.c)
  | .abs nn => some nn

/-- The value an operand reads as (R124). -/
def operandValue (o : Operand8) (s : State) : Byte :=
  match o with
  | .imm n => n
  | .reg r => getR8 r s
  | .ind p => busRead (getPair p s) s
  | .hlInc => busRead (regHL s) s
  | .hlDec => busRead (regHL s) s
  | .high n => busRead (highPage n) s
  | .highC => busRead (highPage s.c) s
  | .abs nn => busRead nn s

/-- What using an operand does to HL: the auto-modifying forms change it once per instruction (R124, D21). -/
def operandSideEffect (o : Operand8) (s : State) : State :=
  match o with
  | .hlInc => setHL (regHL s + 1) s
  | .hlDec => setHL (regHL s - 1) s
  | _ => s

/-- Writing an operand (R124): the place, then the change of HL. An immediate is not writable. -/
def operandWrite (o : Operand8) (v : Byte) (s : State) : State :=
  match o with
  | .imm _ => s
  | .reg r => setR8 r v s
  | .ind p => busWrite (getPair p s) v s
  | .hlInc => operandSideEffect .hlInc (busWrite (regHL s) v s)
  | .hlDec => operandSideEffect .hlDec (busWrite (regHL s) v s)
  | .high n => busWrite (highPage n) v s
  | .highC => busWrite (highPage s.c) v s
  | .abs nn => busWrite nn v s

/-- `cc[k]` (R123, 46_control.md R300). -/
def condHolds (k : Cond) (s : State) : Bool :=
  match k with
  | .nz => !flagZ s
  | .z => flagZ s
  | .nc => !flagC s
  | .c => flagC s

/-- `sext_16` of a signed immediate byte (R125). -/
def sext16 (e : Byte) : Word := e.signExtend 16

end Sys2Proof.Machine
end

