-- ==== Sys2Proof/Machine/Flags.lean ====
section
/-! DEFINITION. Every result and flag computation: exact on naturals and integers, narrowed at the end (42_alu8.md R200,
43_alu16.md R241 and R245, 44_acc_misc.md R255, 45_cb.md R270). -/

namespace Sys2Proof.Machine

/-- A result and its four flags. -/
structure AluOut where
  r : Byte
  z : Bool
  n : Bool
  h : Bool
  c : Bool
  deriving DecidableEq, Repr

/-- `Add8(a, v, ci)` (R200). -/
def add8 (a v : Byte) (ci : Bool) : AluOut :=
  let t := a.toNat + v.toNat + ci.toNat
  let r := BitVec.ofNat 8 t
  { r := r
    z := r = 0
    n := false
    h := 0x0F < a.toNat % 16 + v.toNat % 16 + ci.toNat
    c := 0xFF < t }

/-- `Sub8(a, v, ci)` (R200); the flags are borrows. -/
def sub8 (a v : Byte) (ci : Bool) : AluOut :=
  let t : Int := (a.toNat : Int) - v.toNat - ci.toNat
  let r := BitVec.ofInt 8 t
  { r := r
    z := r = 0
    n := true
    h := ((a.toNat % 16 : Nat) : Int) - (v.toNat % 16 : Nat) - ci.toNat < 0
    c := t < 0 }

/-- AND, XOR, OR: Z from the result, H as given, N and C cleared (R213, R216, R219). -/
def logic8 (r : Byte) (h : Bool) : AluOut := { r := r, z := r = 0, n := false, h := h, c := false }

/-- The ALU operation `alu[y]` on A and an operand, with the incoming carry (R200's table). -/
def aluOut (op : AluOp) (a v : Byte) (cf : Bool) : AluOut :=
  match op with
  | .add => add8 a v false
  | .adc => add8 a v cf
  | .sub => sub8 a v false
  | .sbc => sub8 a v cf
  | .and => logic8 (a &&& v) true
  | .xor => logic8 (a ^^^ v) false
  | .or => logic8 (a ||| v) false
  | .cp => sub8 a v false

/-- CP discards its result, the other operations write it to A (R200). -/
def aluWritesA (op : AluOp) : Bool :=
  match op with
  | .add | .adc | .sub | .sbc | .and | .xor | .or => true
  | .cp => false

/-- INC: Z, N = 0, half carry; C is the caller's (R225). -/
def inc8 (v : Byte) (cf : Bool) : AluOut :=
  { r := v + 1, z := v + 1 = 0, n := false, h := v &&& 0x0F = 0x0F, c := cf }

/-- DEC: Z, N = 1, half borrow; C is the caller's (R227). -/
def dec8 (v : Byte) (cf : Bool) : AluOut :=
  { r := v - 1, z := v - 1 = 0, n := true, h := v &&& 0x0F = 0x00, c := cf }

/-- `ShiftOp(k, v, cin)` (45_cb.md R270): the result and the bit shifted out. -/
def shiftOp (op : RotOp) (v : Byte) (cin : Bool) : Byte × Bool :=
  let b7 := v.getLsbD 7
  let b0 := v.getLsbD 0
  match op with
  | .rlc => ((v <<< 1) ||| BitVec.ofNat 8 b7.toNat, b7)
  | .rrc => ((v >>> 1) ||| BitVec.ofNat 8 (128 * b0.toNat), b0)
  | .rl => ((v <<< 1) ||| BitVec.ofNat 8 cin.toNat, b7)
  | .rr => ((v >>> 1) ||| BitVec.ofNat 8 (128 * cin.toNat), b0)
  | .sla => (v <<< 1, b7)
  | .sra => ((v >>> 1) ||| (v &&& 0x80), b0)
  | .swap => ((v <<< 4) ||| (v >>> 4), false)
  | .srl => (v >>> 1, b0)

/-- A CB rotate or shift with its flags: Z from the result, N = H = 0, C the bit shifted out (R270). -/
def shiftOut (op : RotOp) (v : Byte) (cin : Bool) : AluOut :=
  let (r, co) := shiftOp op v cin
  { r := r, z := r = 0, n := false, h := false, c := co }

/-- DAA's correction and new carry (44_acc_misc.md R255), both conditions on the A and F of entry. -/
def daaCorrection (a : Byte) (n h c : Bool) : Byte × Bool :=
  let low : Byte := if h || (!n && decide (0x09 < a.toNat % 16)) then 0x06 else 0x00
  let high : Bool := c || (!n && decide (0x99 < a.toNat))
  (low ||| (if high then 0x60 else 0x00), high)

/-- DAA's result, with Z from the new A, N kept, H cleared (R255). -/
def daaOut (a : Byte) (n h c : Bool) : AluOut :=
  let (corr, c') := daaCorrection a n h c
  let r := if n then a - corr else a + corr
  { r := r, z := r = 0, n := n, h := false, c := c' }

/-- `SpPlusE(sp, e)` (43_alu16.md R245): the sum with `e` signed, H and C of the unsigned low-byte addition. -/
def spPlusE (sp : Word) (e : Byte) : Word × Bool × Bool :=
  (sp + sext16 e, decide (0x0F < sp.toNat % 16 + e.toNat % 16), decide (0xFF < sp.toNat % 256 + e.toNat))

/-- `ADD HL,rr` (R241): the sum, the carry out of bit 11, the carry out of bit 15. -/
def add16 (a v : Word) : Word × Bool × Bool :=
  (a + v, decide (0x0FFF < a.toNat % 4096 + v.toNat % 4096), decide (0xFFFF < a.toNat + v.toNat))

/-- The flags of an `AluOut` written to F. -/
def setOut (o : AluOut) (s : State) : State := setFlags o.z o.n o.h o.c s

end Sys2Proof.Machine
end

