-- ==== Sys2Proof/Machine/Load8.lean ====
section
/-! DEFINITION. 8-bit loads (40_load8.md R150 to R169). -/

namespace Sys2Proof.Machine

/-- What running an instruction answers. -/
abbrev Result := Host.Outcome State Fault Refusal

/-- A load of `len` bytes and `cycles` M-cycles: the source operand is read, then the destination operand written; no flag
(R150). -/
def load8 (dst src : Operand8) (len cycles : Nat) (s : State) : Result :=
  let s := skip len s
  done cycles (operandWrite dst (operandValue src s) (operandSideEffect src s))

/-- `LD B,B` (0x40), R151. -/
def execLd_B_B (s : State) : Result := load8 (.reg .b) (.reg .b) 1 1 s

/-- `LD B,C` (0x41), R151. -/
def execLd_B_C (s : State) : Result := load8 (.reg .b) (.reg .c) 1 1 s

/-- `LD B,D` (0x42), R151. -/
def execLd_B_D (s : State) : Result := load8 (.reg .b) (.reg .d) 1 1 s

/-- `LD B,E` (0x43), R151. -/
def execLd_B_E (s : State) : Result := load8 (.reg .b) (.reg .e) 1 1 s

/-- `LD B,H` (0x44), R151. -/
def execLd_B_H (s : State) : Result := load8 (.reg .b) (.reg .h) 1 1 s

/-- `LD B,L` (0x45), R151. -/
def execLd_B_L (s : State) : Result := load8 (.reg .b) (.reg .l) 1 1 s

/-- `LD B,A` (0x47), R151. -/
def execLd_B_A (s : State) : Result := load8 (.reg .b) (.reg .a) 1 1 s

/-- `LD C,B` (0x48), R151. -/
def execLd_C_B (s : State) : Result := load8 (.reg .c) (.reg .b) 1 1 s

/-- `LD C,C` (0x49), R151. -/
def execLd_C_C (s : State) : Result := load8 (.reg .c) (.reg .c) 1 1 s

/-- `LD C,D` (0x4A), R151. -/
def execLd_C_D (s : State) : Result := load8 (.reg .c) (.reg .d) 1 1 s

/-- `LD C,E` (0x4B), R151. -/
def execLd_C_E (s : State) : Result := load8 (.reg .c) (.reg .e) 1 1 s

/-- `LD C,H` (0x4C), R151. -/
def execLd_C_H (s : State) : Result := load8 (.reg .c) (.reg .h) 1 1 s

/-- `LD C,L` (0x4D), R151. -/
def execLd_C_L (s : State) : Result := load8 (.reg .c) (.reg .l) 1 1 s

/-- `LD C,A` (0x4F), R151. -/
def execLd_C_A (s : State) : Result := load8 (.reg .c) (.reg .a) 1 1 s

/-- `LD D,B` (0x50), R151. -/
def execLd_D_B (s : State) : Result := load8 (.reg .d) (.reg .b) 1 1 s

/-- `LD D,C` (0x51), R151. -/
def execLd_D_C (s : State) : Result := load8 (.reg .d) (.reg .c) 1 1 s

/-- `LD D,D` (0x52), R151. -/
def execLd_D_D (s : State) : Result := load8 (.reg .d) (.reg .d) 1 1 s

/-- `LD D,E` (0x53), R151. -/
def execLd_D_E (s : State) : Result := load8 (.reg .d) (.reg .e) 1 1 s

/-- `LD D,H` (0x54), R151. -/
def execLd_D_H (s : State) : Result := load8 (.reg .d) (.reg .h) 1 1 s

/-- `LD D,L` (0x55), R151. -/
def execLd_D_L (s : State) : Result := load8 (.reg .d) (.reg .l) 1 1 s

/-- `LD D,A` (0x57), R151. -/
def execLd_D_A (s : State) : Result := load8 (.reg .d) (.reg .a) 1 1 s

/-- `LD E,B` (0x58), R151. -/
def execLd_E_B (s : State) : Result := load8 (.reg .e) (.reg .b) 1 1 s

/-- `LD E,C` (0x59), R151. -/
def execLd_E_C (s : State) : Result := load8 (.reg .e) (.reg .c) 1 1 s

/-- `LD E,D` (0x5A), R151. -/
def execLd_E_D (s : State) : Result := load8 (.reg .e) (.reg .d) 1 1 s

/-- `LD E,E` (0x5B), R151. -/
def execLd_E_E (s : State) : Result := load8 (.reg .e) (.reg .e) 1 1 s

/-- `LD E,H` (0x5C), R151. -/
def execLd_E_H (s : State) : Result := load8 (.reg .e) (.reg .h) 1 1 s

/-- `LD E,L` (0x5D), R151. -/
def execLd_E_L (s : State) : Result := load8 (.reg .e) (.reg .l) 1 1 s

/-- `LD E,A` (0x5F), R151. -/
def execLd_E_A (s : State) : Result := load8 (.reg .e) (.reg .a) 1 1 s

/-- `LD H,B` (0x60), R151. -/
def execLd_H_B (s : State) : Result := load8 (.reg .h) (.reg .b) 1 1 s

/-- `LD H,C` (0x61), R151. -/
def execLd_H_C (s : State) : Result := load8 (.reg .h) (.reg .c) 1 1 s

/-- `LD H,D` (0x62), R151. -/
def execLd_H_D (s : State) : Result := load8 (.reg .h) (.reg .d) 1 1 s

/-- `LD H,E` (0x63), R151. -/
def execLd_H_E (s : State) : Result := load8 (.reg .h) (.reg .e) 1 1 s

/-- `LD H,H` (0x64), R151. -/
def execLd_H_H (s : State) : Result := load8 (.reg .h) (.reg .h) 1 1 s

/-- `LD H,L` (0x65), R151. -/
def execLd_H_L (s : State) : Result := load8 (.reg .h) (.reg .l) 1 1 s

/-- `LD H,A` (0x67), R151. -/
def execLd_H_A (s : State) : Result := load8 (.reg .h) (.reg .a) 1 1 s

/-- `LD L,B` (0x68), R151. -/
def execLd_L_B (s : State) : Result := load8 (.reg .l) (.reg .b) 1 1 s

/-- `LD L,C` (0x69), R151. -/
def execLd_L_C (s : State) : Result := load8 (.reg .l) (.reg .c) 1 1 s

/-- `LD L,D` (0x6A), R151. -/
def execLd_L_D (s : State) : Result := load8 (.reg .l) (.reg .d) 1 1 s

/-- `LD L,E` (0x6B), R151. -/
def execLd_L_E (s : State) : Result := load8 (.reg .l) (.reg .e) 1 1 s

/-- `LD L,H` (0x6C), R151. -/
def execLd_L_H (s : State) : Result := load8 (.reg .l) (.reg .h) 1 1 s

/-- `LD L,L` (0x6D), R151. -/
def execLd_L_L (s : State) : Result := load8 (.reg .l) (.reg .l) 1 1 s

/-- `LD L,A` (0x6F), R151. -/
def execLd_L_A (s : State) : Result := load8 (.reg .l) (.reg .a) 1 1 s

/-- `LD A,B` (0x78), R151. -/
def execLd_A_B (s : State) : Result := load8 (.reg .a) (.reg .b) 1 1 s

/-- `LD A,C` (0x79), R151. -/
def execLd_A_C (s : State) : Result := load8 (.reg .a) (.reg .c) 1 1 s

/-- `LD A,D` (0x7A), R151. -/
def execLd_A_D (s : State) : Result := load8 (.reg .a) (.reg .d) 1 1 s

/-- `LD A,E` (0x7B), R151. -/
def execLd_A_E (s : State) : Result := load8 (.reg .a) (.reg .e) 1 1 s

/-- `LD A,H` (0x7C), R151. -/
def execLd_A_H (s : State) : Result := load8 (.reg .a) (.reg .h) 1 1 s

/-- `LD A,L` (0x7D), R151. -/
def execLd_A_L (s : State) : Result := load8 (.reg .a) (.reg .l) 1 1 s

/-- `LD A,A` (0x7F), R151. -/
def execLd_A_A (s : State) : Result := load8 (.reg .a) (.reg .a) 1 1 s

/-- `LD B,n` (0x06), R152. -/
def execLd_B_n (n : Byte) (s : State) : Result := load8 (.reg .b) (.imm n) 2 2 s

/-- `LD C,n` (0x0E), R152. -/
def execLd_C_n (n : Byte) (s : State) : Result := load8 (.reg .c) (.imm n) 2 2 s

/-- `LD D,n` (0x16), R152. -/
def execLd_D_n (n : Byte) (s : State) : Result := load8 (.reg .d) (.imm n) 2 2 s

/-- `LD E,n` (0x1E), R152. -/
def execLd_E_n (n : Byte) (s : State) : Result := load8 (.reg .e) (.imm n) 2 2 s

/-- `LD H,n` (0x26), R152. -/
def execLd_H_n (n : Byte) (s : State) : Result := load8 (.reg .h) (.imm n) 2 2 s

/-- `LD L,n` (0x2E), R152. -/
def execLd_L_n (n : Byte) (s : State) : Result := load8 (.reg .l) (.imm n) 2 2 s

/-- `LD A,n` (0x3E), R152. -/
def execLd_A_n (n : Byte) (s : State) : Result := load8 (.reg .a) (.imm n) 2 2 s

/-- `LD B,(HL)` (0x46), R153. -/
def execLd_B_iHL (s : State) : Result := load8 (.reg .b) (.ind .hl) 1 2 s

/-- `LD C,(HL)` (0x4E), R153. -/
def execLd_C_iHL (s : State) : Result := load8 (.reg .c) (.ind .hl) 1 2 s

/-- `LD D,(HL)` (0x56), R153. -/
def execLd_D_iHL (s : State) : Result := load8 (.reg .d) (.ind .hl) 1 2 s

/-- `LD E,(HL)` (0x5E), R153. -/
def execLd_E_iHL (s : State) : Result := load8 (.reg .e) (.ind .hl) 1 2 s

/-- `LD H,(HL)` (0x66), R153. -/
def execLd_H_iHL (s : State) : Result := load8 (.reg .h) (.ind .hl) 1 2 s

/-- `LD L,(HL)` (0x6E), R153. -/
def execLd_L_iHL (s : State) : Result := load8 (.reg .l) (.ind .hl) 1 2 s

/-- `LD A,(HL)` (0x7E), R153. -/
def execLd_A_iHL (s : State) : Result := load8 (.reg .a) (.ind .hl) 1 2 s

/-- `LD (HL),B` (0x70), R154. -/
def execLd_iHL_B (s : State) : Result := load8 (.ind .hl) (.reg .b) 1 2 s

/-- `LD (HL),C` (0x71), R154. -/
def execLd_iHL_C (s : State) : Result := load8 (.ind .hl) (.reg .c) 1 2 s

/-- `LD (HL),D` (0x72), R154. -/
def execLd_iHL_D (s : State) : Result := load8 (.ind .hl) (.reg .d) 1 2 s

/-- `LD (HL),E` (0x73), R154. -/
def execLd_iHL_E (s : State) : Result := load8 (.ind .hl) (.reg .e) 1 2 s

/-- `LD (HL),H` (0x74), R154. -/
def execLd_iHL_H (s : State) : Result := load8 (.ind .hl) (.reg .h) 1 2 s

/-- `LD (HL),L` (0x75), R154. -/
def execLd_iHL_L (s : State) : Result := load8 (.ind .hl) (.reg .l) 1 2 s

/-- `LD (HL),A` (0x77), R154. -/
def execLd_iHL_A (s : State) : Result := load8 (.ind .hl) (.reg .a) 1 2 s

/-- `LD (HL),n` (0x36), R155. -/
def execLd_iHL_n (n : Byte) (s : State) : Result := load8 (.ind .hl) (.imm n) 2 3 s

/-- `LD A,(BC)` (0x0A), R156. -/
def execLd_A_iBC (s : State) : Result := load8 (.reg .a) (.ind .bc) 1 2 s

/-- `LD (BC),A` (0x02), R158. -/
def execLd_iBC_A (s : State) : Result := load8 (.ind .bc) (.reg .a) 1 2 s

/-- `LD A,(DE)` (0x1A), R157. -/
def execLd_A_iDE (s : State) : Result := load8 (.reg .a) (.ind .de) 1 2 s

/-- `LD (DE),A` (0x12), R159. -/
def execLd_iDE_A (s : State) : Result := load8 (.ind .de) (.reg .a) 1 2 s

/-- `LD A,(nn)` (0xFA), R160. -/
def execLd_A_inn (nn : Word) (s : State) : Result := load8 (.reg .a) (.abs nn) 3 4 s

/-- `LD (nn),A` (0xEA), R161. -/
def execLd_inn_A (nn : Word) (s : State) : Result := load8 (.abs nn) (.reg .a) 3 4 s

/-- `LD A,(HL+)` (0x2A), R162. -/
def execLd_A_iHLp (s : State) : Result := load8 (.reg .a) .hlInc 1 2 s

/-- `LD A,(HL-)` (0x3A), R163. -/
def execLd_A_iHLm (s : State) : Result := load8 (.reg .a) .hlDec 1 2 s

/-- `LD (HL+),A` (0x22), R164. -/
def execLd_iHLp_A (s : State) : Result := load8 .hlInc (.reg .a) 1 2 s

/-- `LD (HL-),A` (0x32), R165. -/
def execLd_iHLm_A (s : State) : Result := load8 .hlDec (.reg .a) 1 2 s

/-- `LDH A,(n)` (0xF0), R166. -/
def execLdh_A_n (n : Byte) (s : State) : Result := load8 (.reg .a) (.high n) 2 3 s

/-- `LDH (n),A` (0xE0), R167. -/
def execLdh_n_A (n : Byte) (s : State) : Result := load8 (.high n) (.reg .a) 2 3 s

/-- `LD A,(C)` (0xF2), R168. -/
def execLd_A_iC (s : State) : Result := load8 (.reg .a) .highC 1 2 s

/-- `LD (C),A` (0xE2), R169. -/
def execLd_iC_A (s : State) : Result := load8 .highC (.reg .a) 1 2 s

end Sys2Proof.Machine
end

