-- ==== Sys2Proof/Machine/Load16.lean ====
section
/-! DEFINITION. 16-bit loads and stack instructions (41_load16_stack.md R180 to R187). -/

namespace Sys2Proof.Machine

/-- `r16[p] <- Imm16()` (R181). -/
def load16Imm (p : R16) (nn : Word) (s : State) : Result := done 3 (setPair p nn (skip 3 s))

/-- `MemWrite(a, 2, SP)`: SP[7:0] at `nn`, SP[15:8] at `nn` + 1 (R182). -/
def storeSp (nn : Word) (s : State) : Result := done 5 (busWrite16 nn s.sp (skip 3 s))

/-- `SP <- HL` (R183). -/
def loadSpHl (s : State) : Result := done 2 { skip 1 s with sp := regHL s }

/-- `HL <- SP + e`, Z = N = 0, H and C of the low-byte addition; SP stays (R184). -/
def loadHlSpE (e : Byte) (s : State) : Result :=
  let (r, h, c) := spPlusE s.sp e
  done 3 (setFlags false false h c (setHL r (skip 2 s)))

/-- `Push16(r16stk[p])` (R185). -/
def pushPair (p : R16Stk) (s : State) : Result := done 4 (push16 (getStk p s) (skip 1 s))

/-- `r16stk[p] <- Pop16()`; POP AF masks F's low nibble (R186, R187). -/
def popPair (p : R16Stk) (s : State) : Result := done 3 (setStk p (popValue s) (popState (skip 1 s)))

/-- `LD BC,nn` (0x01), R181. -/
def execLd_BC_nn (nn : Word) (s : State) : Result := load16Imm .bc nn s

/-- `LD DE,nn` (0x11), R181. -/
def execLd_DE_nn (nn : Word) (s : State) : Result := load16Imm .de nn s

/-- `LD HL,nn` (0x21), R181. -/
def execLd_HL_nn (nn : Word) (s : State) : Result := load16Imm .hl nn s

/-- `LD SP,nn` (0x31), R181. -/
def execLd_SP_nn (nn : Word) (s : State) : Result := load16Imm .sp nn s

/-- `LD (nn),SP` (0x08), R182. -/
def execLd_inn_SP (nn : Word) (s : State) : Result := storeSp nn s

/-- `LD SP,HL` (0xF9), R183. -/
def execLd_SP_HL (s : State) : Result := loadSpHl s

/-- `LD HL,SP+e` (0xF8), R184. -/
def execLd_HL_SPe (e : Byte) (s : State) : Result := loadHlSpE e s

/-- `PUSH BC` (0xC5), R185. -/
def execPush_BC (s : State) : Result := pushPair .bc s

/-- `PUSH DE` (0xD5), R185. -/
def execPush_DE (s : State) : Result := pushPair .de s

/-- `PUSH HL` (0xE5), R185. -/
def execPush_HL (s : State) : Result := pushPair .hl s

/-- `PUSH AF` (0xF5), R185. -/
def execPush_AF (s : State) : Result := pushPair .af s

/-- `POP BC` (0xC1), R186. -/
def execPop_BC (s : State) : Result := popPair .bc s

/-- `POP DE` (0xD1), R186. -/
def execPop_DE (s : State) : Result := popPair .de s

/-- `POP HL` (0xE1), R186. -/
def execPop_HL (s : State) : Result := popPair .hl s

/-- `POP AF` (0xF1), R187. -/
def execPop_AF (s : State) : Result := popPair .af s

end Sys2Proof.Machine
end

