-- ==== Sys2Proof/Machine/Alu8.lean ====
section
/-! DEFINITION. 8-bit arithmetic and logic (42_alu8.md R200 to R229). -/

namespace Sys2Proof.Machine

/-- `alu[y] A,v`: the operation on A and the operand, its result to A (CP discards it), its flags to F (R200). -/
def alu8 (op : AluOp) (src : Operand8) (len cycles : Nat) (s : State) : Result :=
  let s := skip len s
  let o := aluOut op s.a (operandValue src s) (flagC s)
  done cycles (setOut o (if aluWritesA op then setR8 .a o.r s else s))

/-- A read-modify-write of one operand: the operation takes the value read and the carry flag, its result goes back to the
operand and its flags to F (R225 to R228; 45_cb.md R270 (5)). -/
def modify8 (op : Byte → Bool → AluOut) (dst : Operand8) (len cycles : Nat) (s : State) : Result :=
  let s := skip len s
  let o := op (operandValue dst s) (flagC s)
  done cycles (setOut o (operandWrite dst o.r s))

/-- `ADD A,B` (0x80), R201. -/
def execAdd_A_B (s : State) : Result := alu8 .add (.reg .b) 1 1 s

/-- `ADD A,C` (0x81), R201. -/
def execAdd_A_C (s : State) : Result := alu8 .add (.reg .c) 1 1 s

/-- `ADD A,D` (0x82), R201. -/
def execAdd_A_D (s : State) : Result := alu8 .add (.reg .d) 1 1 s

/-- `ADD A,E` (0x83), R201. -/
def execAdd_A_E (s : State) : Result := alu8 .add (.reg .e) 1 1 s

/-- `ADD A,H` (0x84), R201. -/
def execAdd_A_H (s : State) : Result := alu8 .add (.reg .h) 1 1 s

/-- `ADD A,L` (0x85), R201. -/
def execAdd_A_L (s : State) : Result := alu8 .add (.reg .l) 1 1 s

/-- `ADD A,A` (0x87), R201. -/
def execAdd_A_A (s : State) : Result := alu8 .add (.reg .a) 1 1 s

/-- `ADD A,(HL)` (0x86), R202. -/
def execAdd_A_iHL (s : State) : Result := alu8 .add (.ind .hl) 1 2 s

/-- `ADD A,n` (0xC6), R203. -/
def execAdd_A_n (n : Byte) (s : State) : Result := alu8 .add (.imm n) 2 2 s

/-- `ADC A,B` (0x88), R204. -/
def execAdc_A_B (s : State) : Result := alu8 .adc (.reg .b) 1 1 s

/-- `ADC A,C` (0x89), R204. -/
def execAdc_A_C (s : State) : Result := alu8 .adc (.reg .c) 1 1 s

/-- `ADC A,D` (0x8A), R204. -/
def execAdc_A_D (s : State) : Result := alu8 .adc (.reg .d) 1 1 s

/-- `ADC A,E` (0x8B), R204. -/
def execAdc_A_E (s : State) : Result := alu8 .adc (.reg .e) 1 1 s

/-- `ADC A,H` (0x8C), R204. -/
def execAdc_A_H (s : State) : Result := alu8 .adc (.reg .h) 1 1 s

/-- `ADC A,L` (0x8D), R204. -/
def execAdc_A_L (s : State) : Result := alu8 .adc (.reg .l) 1 1 s

/-- `ADC A,A` (0x8F), R204. -/
def execAdc_A_A (s : State) : Result := alu8 .adc (.reg .a) 1 1 s

/-- `ADC A,(HL)` (0x8E), R205. -/
def execAdc_A_iHL (s : State) : Result := alu8 .adc (.ind .hl) 1 2 s

/-- `ADC A,n` (0xCE), R206. -/
def execAdc_A_n (n : Byte) (s : State) : Result := alu8 .adc (.imm n) 2 2 s

/-- `SUB B` (0x90), R207. -/
def execSub_B (s : State) : Result := alu8 .sub (.reg .b) 1 1 s

/-- `SUB C` (0x91), R207. -/
def execSub_C (s : State) : Result := alu8 .sub (.reg .c) 1 1 s

/-- `SUB D` (0x92), R207. -/
def execSub_D (s : State) : Result := alu8 .sub (.reg .d) 1 1 s

/-- `SUB E` (0x93), R207. -/
def execSub_E (s : State) : Result := alu8 .sub (.reg .e) 1 1 s

/-- `SUB H` (0x94), R207. -/
def execSub_H (s : State) : Result := alu8 .sub (.reg .h) 1 1 s

/-- `SUB L` (0x95), R207. -/
def execSub_L (s : State) : Result := alu8 .sub (.reg .l) 1 1 s

/-- `SUB A` (0x97), R207. -/
def execSub_A (s : State) : Result := alu8 .sub (.reg .a) 1 1 s

/-- `SUB (HL)` (0x96), R208. -/
def execSub_iHL (s : State) : Result := alu8 .sub (.ind .hl) 1 2 s

/-- `SUB n` (0xD6), R209. -/
def execSub_n (n : Byte) (s : State) : Result := alu8 .sub (.imm n) 2 2 s

/-- `SBC A,B` (0x98), R210. -/
def execSbc_A_B (s : State) : Result := alu8 .sbc (.reg .b) 1 1 s

/-- `SBC A,C` (0x99), R210. -/
def execSbc_A_C (s : State) : Result := alu8 .sbc (.reg .c) 1 1 s

/-- `SBC A,D` (0x9A), R210. -/
def execSbc_A_D (s : State) : Result := alu8 .sbc (.reg .d) 1 1 s

/-- `SBC A,E` (0x9B), R210. -/
def execSbc_A_E (s : State) : Result := alu8 .sbc (.reg .e) 1 1 s

/-- `SBC A,H` (0x9C), R210. -/
def execSbc_A_H (s : State) : Result := alu8 .sbc (.reg .h) 1 1 s

/-- `SBC A,L` (0x9D), R210. -/
def execSbc_A_L (s : State) : Result := alu8 .sbc (.reg .l) 1 1 s

/-- `SBC A,A` (0x9F), R210. -/
def execSbc_A_A (s : State) : Result := alu8 .sbc (.reg .a) 1 1 s

/-- `SBC A,(HL)` (0x9E), R211. -/
def execSbc_A_iHL (s : State) : Result := alu8 .sbc (.ind .hl) 1 2 s

/-- `SBC A,n` (0xDE), R212. -/
def execSbc_A_n (n : Byte) (s : State) : Result := alu8 .sbc (.imm n) 2 2 s

/-- `AND B` (0xA0), R213. -/
def execAnd_B (s : State) : Result := alu8 .and (.reg .b) 1 1 s

/-- `AND C` (0xA1), R213. -/
def execAnd_C (s : State) : Result := alu8 .and (.reg .c) 1 1 s

/-- `AND D` (0xA2), R213. -/
def execAnd_D (s : State) : Result := alu8 .and (.reg .d) 1 1 s

/-- `AND E` (0xA3), R213. -/
def execAnd_E (s : State) : Result := alu8 .and (.reg .e) 1 1 s

/-- `AND H` (0xA4), R213. -/
def execAnd_H (s : State) : Result := alu8 .and (.reg .h) 1 1 s

/-- `AND L` (0xA5), R213. -/
def execAnd_L (s : State) : Result := alu8 .and (.reg .l) 1 1 s

/-- `AND A` (0xA7), R213. -/
def execAnd_A (s : State) : Result := alu8 .and (.reg .a) 1 1 s

/-- `AND (HL)` (0xA6), R214. -/
def execAnd_iHL (s : State) : Result := alu8 .and (.ind .hl) 1 2 s

/-- `AND n` (0xE6), R215. -/
def execAnd_n (n : Byte) (s : State) : Result := alu8 .and (.imm n) 2 2 s

/-- `XOR B` (0xA8), R216. -/
def execXor_B (s : State) : Result := alu8 .xor (.reg .b) 1 1 s

/-- `XOR C` (0xA9), R216. -/
def execXor_C (s : State) : Result := alu8 .xor (.reg .c) 1 1 s

/-- `XOR D` (0xAA), R216. -/
def execXor_D (s : State) : Result := alu8 .xor (.reg .d) 1 1 s

/-- `XOR E` (0xAB), R216. -/
def execXor_E (s : State) : Result := alu8 .xor (.reg .e) 1 1 s

/-- `XOR H` (0xAC), R216. -/
def execXor_H (s : State) : Result := alu8 .xor (.reg .h) 1 1 s

/-- `XOR L` (0xAD), R216. -/
def execXor_L (s : State) : Result := alu8 .xor (.reg .l) 1 1 s

/-- `XOR A` (0xAF), R216. -/
def execXor_A (s : State) : Result := alu8 .xor (.reg .a) 1 1 s

/-- `XOR (HL)` (0xAE), R217. -/
def execXor_iHL (s : State) : Result := alu8 .xor (.ind .hl) 1 2 s

/-- `XOR n` (0xEE), R218. -/
def execXor_n (n : Byte) (s : State) : Result := alu8 .xor (.imm n) 2 2 s

/-- `OR B` (0xB0), R219. -/
def execOr_B (s : State) : Result := alu8 .or (.reg .b) 1 1 s

/-- `OR C` (0xB1), R219. -/
def execOr_C (s : State) : Result := alu8 .or (.reg .c) 1 1 s

/-- `OR D` (0xB2), R219. -/
def execOr_D (s : State) : Result := alu8 .or (.reg .d) 1 1 s

/-- `OR E` (0xB3), R219. -/
def execOr_E (s : State) : Result := alu8 .or (.reg .e) 1 1 s

/-- `OR H` (0xB4), R219. -/
def execOr_H (s : State) : Result := alu8 .or (.reg .h) 1 1 s

/-- `OR L` (0xB5), R219. -/
def execOr_L (s : State) : Result := alu8 .or (.reg .l) 1 1 s

/-- `OR A` (0xB7), R219. -/
def execOr_A (s : State) : Result := alu8 .or (.reg .a) 1 1 s

/-- `OR (HL)` (0xB6), R220. -/
def execOr_iHL (s : State) : Result := alu8 .or (.ind .hl) 1 2 s

/-- `OR n` (0xF6), R221. -/
def execOr_n (n : Byte) (s : State) : Result := alu8 .or (.imm n) 2 2 s

/-- `CP B` (0xB8), R222. -/
def execCp_B (s : State) : Result := alu8 .cp (.reg .b) 1 1 s

/-- `CP C` (0xB9), R222. -/
def execCp_C (s : State) : Result := alu8 .cp (.reg .c) 1 1 s

/-- `CP D` (0xBA), R222. -/
def execCp_D (s : State) : Result := alu8 .cp (.reg .d) 1 1 s

/-- `CP E` (0xBB), R222. -/
def execCp_E (s : State) : Result := alu8 .cp (.reg .e) 1 1 s

/-- `CP H` (0xBC), R222. -/
def execCp_H (s : State) : Result := alu8 .cp (.reg .h) 1 1 s

/-- `CP L` (0xBD), R222. -/
def execCp_L (s : State) : Result := alu8 .cp (.reg .l) 1 1 s

/-- `CP A` (0xBF), R222. -/
def execCp_A (s : State) : Result := alu8 .cp (.reg .a) 1 1 s

/-- `CP (HL)` (0xBE), R223. -/
def execCp_iHL (s : State) : Result := alu8 .cp (.ind .hl) 1 2 s

/-- `CP n` (0xFE), R224. -/
def execCp_n (n : Byte) (s : State) : Result := alu8 .cp (.imm n) 2 2 s

/-- `INC B` (0x04), R225. -/
def execInc_B (s : State) : Result := modify8 inc8 (.reg .b) 1 1 s

/-- `INC C` (0x0C), R225. -/
def execInc_C (s : State) : Result := modify8 inc8 (.reg .c) 1 1 s

/-- `INC D` (0x14), R225. -/
def execInc_D (s : State) : Result := modify8 inc8 (.reg .d) 1 1 s

/-- `INC E` (0x1C), R225. -/
def execInc_E (s : State) : Result := modify8 inc8 (.reg .e) 1 1 s

/-- `INC H` (0x24), R225. -/
def execInc_H (s : State) : Result := modify8 inc8 (.reg .h) 1 1 s

/-- `INC L` (0x2C), R225. -/
def execInc_L (s : State) : Result := modify8 inc8 (.reg .l) 1 1 s

/-- `INC A` (0x3C), R225. -/
def execInc_A (s : State) : Result := modify8 inc8 (.reg .a) 1 1 s

/-- `INC (HL)` (0x34), R226. -/
def execInc_iHL (s : State) : Result := modify8 inc8 (.ind .hl) 1 3 s

/-- `DEC B` (0x05), R227. -/
def execDec_B (s : State) : Result := modify8 dec8 (.reg .b) 1 1 s

/-- `DEC C` (0x0D), R227. -/
def execDec_C (s : State) : Result := modify8 dec8 (.reg .c) 1 1 s

/-- `DEC D` (0x15), R227. -/
def execDec_D (s : State) : Result := modify8 dec8 (.reg .d) 1 1 s

/-- `DEC E` (0x1D), R227. -/
def execDec_E (s : State) : Result := modify8 dec8 (.reg .e) 1 1 s

/-- `DEC H` (0x25), R227. -/
def execDec_H (s : State) : Result := modify8 dec8 (.reg .h) 1 1 s

/-- `DEC L` (0x2D), R227. -/
def execDec_L (s : State) : Result := modify8 dec8 (.reg .l) 1 1 s

/-- `DEC A` (0x3D), R227. -/
def execDec_A (s : State) : Result := modify8 dec8 (.reg .a) 1 1 s

/-- `DEC (HL)` (0x35), R228. -/
def execDec_iHL (s : State) : Result := modify8 dec8 (.ind .hl) 1 3 s

end Sys2Proof.Machine
end

