-- ==== Sys2Proof/Machine/Alu16.lean ====
section
/-! DEFINITION. 16-bit arithmetic (43_alu16.md R240 to R245). -/

namespace Sys2Proof.Machine

/-- `HL <- HL + r16[p]`: Z unchanged, N = 0, H out of bit 11, C out of bit 15 (R241). -/
def addHlPair (p : R16) (s : State) : Result :=
  let (r, h, c) := add16 (regHL s) (getPair p s)
  done 2 (setFlags (flagZ s) false h c (setHL r (skip 1 s)))

/-- `r16[p] <- r16[p] + 1`, no flag (R242). -/
def incPair (p : R16) (s : State) : Result := done 2 (setPair p (getPair p s + 1) (skip 1 s))

/-- `r16[p] <- r16[p] - 1`, no flag (R243). -/
def decPair (p : R16) (s : State) : Result := done 2 (setPair p (getPair p s - 1) (skip 1 s))

/-- `SP <- SP + e`, Z = N = 0, H and C of the low-byte addition (R244). -/
def addSpE (e : Byte) (s : State) : Result :=
  let (r, h, c) := spPlusE s.sp e
  done 4 (setFlags false false h c { skip 2 s with sp := r })

/-- `ADD HL,BC` (0x09), R241. -/
def execAdd_HL_BC (s : State) : Result := addHlPair .bc s

/-- `ADD HL,DE` (0x19), R241. -/
def execAdd_HL_DE (s : State) : Result := addHlPair .de s

/-- `ADD HL,HL` (0x29), R241. -/
def execAdd_HL_HL (s : State) : Result := addHlPair .hl s

/-- `ADD HL,SP` (0x39), R241. -/
def execAdd_HL_SP (s : State) : Result := addHlPair .sp s

/-- `INC BC` (0x03), R242. -/
def execInc_BC (s : State) : Result := incPair .bc s

/-- `INC DE` (0x13), R242. -/
def execInc_DE (s : State) : Result := incPair .de s

/-- `INC HL` (0x23), R242. -/
def execInc_HL (s : State) : Result := incPair .hl s

/-- `INC SP` (0x33), R242. -/
def execInc_SP (s : State) : Result := incPair .sp s

/-- `DEC BC` (0x0B), R243. -/
def execDec_BC (s : State) : Result := decPair .bc s

/-- `DEC DE` (0x1B), R243. -/
def execDec_DE (s : State) : Result := decPair .de s

/-- `DEC HL` (0x2B), R243. -/
def execDec_HL (s : State) : Result := decPair .hl s

/-- `DEC SP` (0x3B), R243. -/
def execDec_SP (s : State) : Result := decPair .sp s

/-- `ADD SP,e` (0xE8), R244. -/
def execAdd_SP_e (e : Byte) (s : State) : Result := addSpE e s

end Sys2Proof.Machine
end

