-- ==== Sys2Proof/Machine/AccMisc.lean ====
section
/-! DEFINITION. Accumulator rotates, DAA, CPL, SCF, CCF (44_acc_misc.md R250 to R258). -/

namespace Sys2Proof.Machine

/-- A rotate of A: as its CB namesake but Z is always written 0 (R250 (3), D17). -/
def rotateA (op : RotOp) (s : State) : Result :=
  let (r, co) := shiftOp op s.a (flagC s)
  done 1 (setFlags false false false co (setR8 .a r (skip 1 s)))

/-- DAA (R255). -/
def decimalAdjust (s : State) : Result :=
  let o := daaOut s.a (flagN s) (flagH s) (flagC s)
  done 1 (setOut o (setR8 .a o.r (skip 1 s)))

/-- CPL: A complemented, N = H = 1, Z and C unchanged (R256). -/
def complementA (s : State) : Result :=
  done 1 (setFlags (flagZ s) true true (flagC s) (setR8 .a (s.a ^^^ 0xFF) (skip 1 s)))

/-- SCF and CCF: C as given, N = H = 0, Z unchanged (R257, R258). -/
def carryFlag (c : Bool) (s : State) : Result := done 1 (setFlags (flagZ s) false false c (skip 1 s))

/-- `RLCA` (0x07), R251. -/
def execRlca (s : State) : Result := rotateA .rlc s

/-- `RLA` (0x17), R252. -/
def execRla (s : State) : Result := rotateA .rl s

/-- `RRCA` (0x0F), R253. -/
def execRrca (s : State) : Result := rotateA .rrc s

/-- `RRA` (0x1F), R254. -/
def execRra (s : State) : Result := rotateA .rr s

/-- `DAA` (0x27), R255. -/
def execDaa (s : State) : Result := decimalAdjust s

/-- `CPL` (0x2F), R256. -/
def execCpl (s : State) : Result := complementA s

/-- `SCF` (0x37), R257. -/
def execScf (s : State) : Result := carryFlag true s

/-- `CCF` (0x3F), R258. -/
def execCcf (s : State) : Result := carryFlag (!flagC s) s

end Sys2Proof.Machine
end

