-- ==== Sys2Proof/Machine/CbShift.lean ====
section
/-! DEFINITION. CB-prefixed rotates and shifts (45_cb.md R270 to R286): each is the read-modify-write `modify8` with its `ShiftOp`. -/

namespace Sys2Proof.Machine



/-- `RLC B` (0xCB 0x00), R271. -/
def execRlc_B (s : State) : Result := modify8 (shiftOut .rlc) (.reg .b) 2 2 s

/-- `RLC C` (0xCB 0x01), R271. -/
def execRlc_C (s : State) : Result := modify8 (shiftOut .rlc) (.reg .c) 2 2 s

/-- `RLC D` (0xCB 0x02), R271. -/
def execRlc_D (s : State) : Result := modify8 (shiftOut .rlc) (.reg .d) 2 2 s

/-- `RLC E` (0xCB 0x03), R271. -/
def execRlc_E (s : State) : Result := modify8 (shiftOut .rlc) (.reg .e) 2 2 s

/-- `RLC H` (0xCB 0x04), R271. -/
def execRlc_H (s : State) : Result := modify8 (shiftOut .rlc) (.reg .h) 2 2 s

/-- `RLC L` (0xCB 0x05), R271. -/
def execRlc_L (s : State) : Result := modify8 (shiftOut .rlc) (.reg .l) 2 2 s

/-- `RLC A` (0xCB 0x07), R271. -/
def execRlc_A (s : State) : Result := modify8 (shiftOut .rlc) (.reg .a) 2 2 s

/-- `RLC (HL)` (0xCB 0x06), R272. -/
def execRlc_iHL (s : State) : Result := modify8 (shiftOut .rlc) (.ind .hl) 2 4 s

/-- `RRC B` (0xCB 0x08), R273. -/
def execRrc_B (s : State) : Result := modify8 (shiftOut .rrc) (.reg .b) 2 2 s

/-- `RRC C` (0xCB 0x09), R273. -/
def execRrc_C (s : State) : Result := modify8 (shiftOut .rrc) (.reg .c) 2 2 s

/-- `RRC D` (0xCB 0x0A), R273. -/
def execRrc_D (s : State) : Result := modify8 (shiftOut .rrc) (.reg .d) 2 2 s

/-- `RRC E` (0xCB 0x0B), R273. -/
def execRrc_E (s : State) : Result := modify8 (shiftOut .rrc) (.reg .e) 2 2 s

/-- `RRC H` (0xCB 0x0C), R273. -/
def execRrc_H (s : State) : Result := modify8 (shiftOut .rrc) (.reg .h) 2 2 s

/-- `RRC L` (0xCB 0x0D), R273. -/
def execRrc_L (s : State) : Result := modify8 (shiftOut .rrc) (.reg .l) 2 2 s

/-- `RRC A` (0xCB 0x0F), R273. -/
def execRrc_A (s : State) : Result := modify8 (shiftOut .rrc) (.reg .a) 2 2 s

/-- `RRC (HL)` (0xCB 0x0E), R274. -/
def execRrc_iHL (s : State) : Result := modify8 (shiftOut .rrc) (.ind .hl) 2 4 s

/-- `RL B` (0xCB 0x10), R275. -/
def execRl_B (s : State) : Result := modify8 (shiftOut .rl) (.reg .b) 2 2 s

/-- `RL C` (0xCB 0x11), R275. -/
def execRl_C (s : State) : Result := modify8 (shiftOut .rl) (.reg .c) 2 2 s

/-- `RL D` (0xCB 0x12), R275. -/
def execRl_D (s : State) : Result := modify8 (shiftOut .rl) (.reg .d) 2 2 s

/-- `RL E` (0xCB 0x13), R275. -/
def execRl_E (s : State) : Result := modify8 (shiftOut .rl) (.reg .e) 2 2 s

/-- `RL H` (0xCB 0x14), R275. -/
def execRl_H (s : State) : Result := modify8 (shiftOut .rl) (.reg .h) 2 2 s

/-- `RL L` (0xCB 0x15), R275. -/
def execRl_L (s : State) : Result := modify8 (shiftOut .rl) (.reg .l) 2 2 s

/-- `RL A` (0xCB 0x17), R275. -/
def execRl_A (s : State) : Result := modify8 (shiftOut .rl) (.reg .a) 2 2 s

/-- `RL (HL)` (0xCB 0x16), R276. -/
def execRl_iHL (s : State) : Result := modify8 (shiftOut .rl) (.ind .hl) 2 4 s

/-- `RR B` (0xCB 0x18), R277. -/
def execRr_B (s : State) : Result := modify8 (shiftOut .rr) (.reg .b) 2 2 s

/-- `RR C` (0xCB 0x19), R277. -/
def execRr_C (s : State) : Result := modify8 (shiftOut .rr) (.reg .c) 2 2 s

/-- `RR D` (0xCB 0x1A), R277. -/
def execRr_D (s : State) : Result := modify8 (shiftOut .rr) (.reg .d) 2 2 s

/-- `RR E` (0xCB 0x1B), R277. -/
def execRr_E (s : State) : Result := modify8 (shiftOut .rr) (.reg .e) 2 2 s

/-- `RR H` (0xCB 0x1C), R277. -/
def execRr_H (s : State) : Result := modify8 (shiftOut .rr) (.reg .h) 2 2 s

/-- `RR L` (0xCB 0x1D), R277. -/
def execRr_L (s : State) : Result := modify8 (shiftOut .rr) (.reg .l) 2 2 s

/-- `RR A` (0xCB 0x1F), R277. -/
def execRr_A (s : State) : Result := modify8 (shiftOut .rr) (.reg .a) 2 2 s

/-- `RR (HL)` (0xCB 0x1E), R278. -/
def execRr_iHL (s : State) : Result := modify8 (shiftOut .rr) (.ind .hl) 2 4 s

/-- `SLA B` (0xCB 0x20), R279. -/
def execSla_B (s : State) : Result := modify8 (shiftOut .sla) (.reg .b) 2 2 s

/-- `SLA C` (0xCB 0x21), R279. -/
def execSla_C (s : State) : Result := modify8 (shiftOut .sla) (.reg .c) 2 2 s

/-- `SLA D` (0xCB 0x22), R279. -/
def execSla_D (s : State) : Result := modify8 (shiftOut .sla) (.reg .d) 2 2 s

/-- `SLA E` (0xCB 0x23), R279. -/
def execSla_E (s : State) : Result := modify8 (shiftOut .sla) (.reg .e) 2 2 s

/-- `SLA H` (0xCB 0x24), R279. -/
def execSla_H (s : State) : Result := modify8 (shiftOut .sla) (.reg .h) 2 2 s

/-- `SLA L` (0xCB 0x25), R279. -/
def execSla_L (s : State) : Result := modify8 (shiftOut .sla) (.reg .l) 2 2 s

/-- `SLA A` (0xCB 0x27), R279. -/
def execSla_A (s : State) : Result := modify8 (shiftOut .sla) (.reg .a) 2 2 s

/-- `SLA (HL)` (0xCB 0x26), R280. -/
def execSla_iHL (s : State) : Result := modify8 (shiftOut .sla) (.ind .hl) 2 4 s

/-- `SRA B` (0xCB 0x28), R281. -/
def execSra_B (s : State) : Result := modify8 (shiftOut .sra) (.reg .b) 2 2 s

/-- `SRA C` (0xCB 0x29), R281. -/
def execSra_C (s : State) : Result := modify8 (shiftOut .sra) (.reg .c) 2 2 s

/-- `SRA D` (0xCB 0x2A), R281. -/
def execSra_D (s : State) : Result := modify8 (shiftOut .sra) (.reg .d) 2 2 s

/-- `SRA E` (0xCB 0x2B), R281. -/
def execSra_E (s : State) : Result := modify8 (shiftOut .sra) (.reg .e) 2 2 s

/-- `SRA H` (0xCB 0x2C), R281. -/
def execSra_H (s : State) : Result := modify8 (shiftOut .sra) (.reg .h) 2 2 s

/-- `SRA L` (0xCB 0x2D), R281. -/
def execSra_L (s : State) : Result := modify8 (shiftOut .sra) (.reg .l) 2 2 s

/-- `SRA A` (0xCB 0x2F), R281. -/
def execSra_A (s : State) : Result := modify8 (shiftOut .sra) (.reg .a) 2 2 s

/-- `SRA (HL)` (0xCB 0x2E), R282. -/
def execSra_iHL (s : State) : Result := modify8 (shiftOut .sra) (.ind .hl) 2 4 s

/-- `SWAP B` (0xCB 0x30), R283. -/
def execSwap_B (s : State) : Result := modify8 (shiftOut .swap) (.reg .b) 2 2 s

/-- `SWAP C` (0xCB 0x31), R283. -/
def execSwap_C (s : State) : Result := modify8 (shiftOut .swap) (.reg .c) 2 2 s

/-- `SWAP D` (0xCB 0x32), R283. -/
def execSwap_D (s : State) : Result := modify8 (shiftOut .swap) (.reg .d) 2 2 s

/-- `SWAP E` (0xCB 0x33), R283. -/
def execSwap_E (s : State) : Result := modify8 (shiftOut .swap) (.reg .e) 2 2 s

/-- `SWAP H` (0xCB 0x34), R283. -/
def execSwap_H (s : State) : Result := modify8 (shiftOut .swap) (.reg .h) 2 2 s

/-- `SWAP L` (0xCB 0x35), R283. -/
def execSwap_L (s : State) : Result := modify8 (shiftOut .swap) (.reg .l) 2 2 s

/-- `SWAP A` (0xCB 0x37), R283. -/
def execSwap_A (s : State) : Result := modify8 (shiftOut .swap) (.reg .a) 2 2 s

/-- `SWAP (HL)` (0xCB 0x36), R284. -/
def execSwap_iHL (s : State) : Result := modify8 (shiftOut .swap) (.ind .hl) 2 4 s

/-- `SRL B` (0xCB 0x38), R285. -/
def execSrl_B (s : State) : Result := modify8 (shiftOut .srl) (.reg .b) 2 2 s

/-- `SRL C` (0xCB 0x39), R285. -/
def execSrl_C (s : State) : Result := modify8 (shiftOut .srl) (.reg .c) 2 2 s

/-- `SRL D` (0xCB 0x3A), R285. -/
def execSrl_D (s : State) : Result := modify8 (shiftOut .srl) (.reg .d) 2 2 s

/-- `SRL E` (0xCB 0x3B), R285. -/
def execSrl_E (s : State) : Result := modify8 (shiftOut .srl) (.reg .e) 2 2 s

/-- `SRL H` (0xCB 0x3C), R285. -/
def execSrl_H (s : State) : Result := modify8 (shiftOut .srl) (.reg .h) 2 2 s

/-- `SRL L` (0xCB 0x3D), R285. -/
def execSrl_L (s : State) : Result := modify8 (shiftOut .srl) (.reg .l) 2 2 s

/-- `SRL A` (0xCB 0x3F), R285. -/
def execSrl_A (s : State) : Result := modify8 (shiftOut .srl) (.reg .a) 2 2 s

/-- `SRL (HL)` (0xCB 0x3E), R286. -/
def execSrl_iHL (s : State) : Result := modify8 (shiftOut .srl) (.ind .hl) 2 4 s

end Sys2Proof.Machine
end

