-- ==== Sys2Proof/Machine/CbBit.lean ====
section
/-! DEFINITION. CB-prefixed bit instructions (45_cb.md R287 to R292), and the prefix (47_system.md R326). -/

namespace Sys2Proof.Machine

/-- `v & ~(1 << b)` (R289). -/
def resBit (b : Nat) (v : Byte) : Byte := v &&& ~~~ ((1 : Byte) <<< b)

/-- `v | (1 << b)` (R291). -/
def setBit (b : Nat) (v : Byte) : Byte := v ||| ((1 : Byte) <<< b)

/-- BIT: Z is the complement of the tested bit, N = 0, H = 1, C unchanged; nothing but F is written (R287, R288). -/
def testBit8 (b : Nat) (src : Operand8) (cycles : Nat) (s : State) : Result :=
  let s := skip 2 s
  done cycles (setFlags (!(operandValue src s).getLsbD b) false true (flagC s) s)

/-- RES and SET: the operand is read, changed and written back, no flag (R289 to R292). -/
def change8 (g : Byte → Byte) (dst : Operand8) (cycles : Nat) (s : State) : Result :=
  let s := skip 2 s
  done cycles (operandWrite dst (g (operandValue dst s)) s)

/-- `r8[z]` as an operand; index 6 is the byte at HL (30_encoding.md R123). -/
def slotOperand (z : Oct) : Operand8 :=
  match r8At z with
  | some r => .reg r
  | none => .ind .hl

/-- `ExecCB(op2)` by the fields of the second byte (R270 (1), (2)): the (HL) forms take 4 M-cycles, BIT on (HL) 3, the others
2. -/
def cbByFields (op2 : Byte) (s : State) : Result :=
  let y := octNat (fieldY op2)
  let o := slotOperand (fieldZ op2)
  let cycles := if fieldZ op2 = .o6 then 4 else 2
  match fieldX op2 with
  | .q0 => modify8 (shiftOut (rotAt (fieldY op2))) o 2 cycles s
  | .q1 => testBit8 y o (if fieldZ op2 = .o6 then 3 else 2) s
  | .q2 => change8 (resBit y) o cycles s
  | .q3 => change8 (setBit y) o cycles s

/-- `BIT 0,B` (0xCB 0x40), R287. -/
def execBit_0_B (s : State) : Result := testBit8 0 (.reg .b) 2 s

/-- `BIT 0,C` (0xCB 0x41), R287. -/
def execBit_0_C (s : State) : Result := testBit8 0 (.reg .c) 2 s

/-- `BIT 0,D` (0xCB 0x42), R287. -/
def execBit_0_D (s : State) : Result := testBit8 0 (.reg .d) 2 s

/-- `BIT 0,E` (0xCB 0x43), R287. -/
def execBit_0_E (s : State) : Result := testBit8 0 (.reg .e) 2 s

/-- `BIT 0,H` (0xCB 0x44), R287. -/
def execBit_0_H (s : State) : Result := testBit8 0 (.reg .h) 2 s

/-- `BIT 0,L` (0xCB 0x45), R287. -/
def execBit_0_L (s : State) : Result := testBit8 0 (.reg .l) 2 s

/-- `BIT 0,A` (0xCB 0x47), R287. -/
def execBit_0_A (s : State) : Result := testBit8 0 (.reg .a) 2 s

/-- `BIT 0,(HL)` (0xCB 0x46), R288. -/
def execBit_0_iHL (s : State) : Result := testBit8 0 (.ind .hl) 3 s

/-- `BIT 1,B` (0xCB 0x48), R287. -/
def execBit_1_B (s : State) : Result := testBit8 1 (.reg .b) 2 s

/-- `BIT 1,C` (0xCB 0x49), R287. -/
def execBit_1_C (s : State) : Result := testBit8 1 (.reg .c) 2 s

/-- `BIT 1,D` (0xCB 0x4A), R287. -/
def execBit_1_D (s : State) : Result := testBit8 1 (.reg .d) 2 s

/-- `BIT 1,E` (0xCB 0x4B), R287. -/
def execBit_1_E (s : State) : Result := testBit8 1 (.reg .e) 2 s

/-- `BIT 1,H` (0xCB 0x4C), R287. -/
def execBit_1_H (s : State) : Result := testBit8 1 (.reg .h) 2 s

/-- `BIT 1,L` (0xCB 0x4D), R287. -/
def execBit_1_L (s : State) : Result := testBit8 1 (.reg .l) 2 s

/-- `BIT 1,A` (0xCB 0x4F), R287. -/
def execBit_1_A (s : State) : Result := testBit8 1 (.reg .a) 2 s

/-- `BIT 1,(HL)` (0xCB 0x4E), R288. -/
def execBit_1_iHL (s : State) : Result := testBit8 1 (.ind .hl) 3 s

/-- `BIT 2,B` (0xCB 0x50), R287. -/
def execBit_2_B (s : State) : Result := testBit8 2 (.reg .b) 2 s

/-- `BIT 2,C` (0xCB 0x51), R287. -/
def execBit_2_C (s : State) : Result := testBit8 2 (.reg .c) 2 s

/-- `BIT 2,D` (0xCB 0x52), R287. -/
def execBit_2_D (s : State) : Result := testBit8 2 (.reg .d) 2 s

/-- `BIT 2,E` (0xCB 0x53), R287. -/
def execBit_2_E (s : State) : Result := testBit8 2 (.reg .e) 2 s

/-- `BIT 2,H` (0xCB 0x54), R287. -/
def execBit_2_H (s : State) : Result := testBit8 2 (.reg .h) 2 s

/-- `BIT 2,L` (0xCB 0x55), R287. -/
def execBit_2_L (s : State) : Result := testBit8 2 (.reg .l) 2 s

/-- `BIT 2,A` (0xCB 0x57), R287. -/
def execBit_2_A (s : State) : Result := testBit8 2 (.reg .a) 2 s

/-- `BIT 2,(HL)` (0xCB 0x56), R288. -/
def execBit_2_iHL (s : State) : Result := testBit8 2 (.ind .hl) 3 s

/-- `BIT 3,B` (0xCB 0x58), R287. -/
def execBit_3_B (s : State) : Result := testBit8 3 (.reg .b) 2 s

/-- `BIT 3,C` (0xCB 0x59), R287. -/
def execBit_3_C (s : State) : Result := testBit8 3 (.reg .c) 2 s

/-- `BIT 3,D` (0xCB 0x5A), R287. -/
def execBit_3_D (s : State) : Result := testBit8 3 (.reg .d) 2 s

/-- `BIT 3,E` (0xCB 0x5B), R287. -/
def execBit_3_E (s : State) : Result := testBit8 3 (.reg .e) 2 s

/-- `BIT 3,H` (0xCB 0x5C), R287. -/
def execBit_3_H (s : State) : Result := testBit8 3 (.reg .h) 2 s

/-- `BIT 3,L` (0xCB 0x5D), R287. -/
def execBit_3_L (s : State) : Result := testBit8 3 (.reg .l) 2 s

/-- `BIT 3,A` (0xCB 0x5F), R287. -/
def execBit_3_A (s : State) : Result := testBit8 3 (.reg .a) 2 s

/-- `BIT 3,(HL)` (0xCB 0x5E), R288. -/
def execBit_3_iHL (s : State) : Result := testBit8 3 (.ind .hl) 3 s

/-- `BIT 4,B` (0xCB 0x60), R287. -/
def execBit_4_B (s : State) : Result := testBit8 4 (.reg .b) 2 s

/-- `BIT 4,C` (0xCB 0x61), R287. -/
def execBit_4_C (s : State) : Result := testBit8 4 (.reg .c) 2 s

/-- `BIT 4,D` (0xCB 0x62), R287. -/
def execBit_4_D (s : State) : Result := testBit8 4 (.reg .d) 2 s

/-- `BIT 4,E` (0xCB 0x63), R287. -/
def execBit_4_E (s : State) : Result := testBit8 4 (.reg .e) 2 s

/-- `BIT 4,H` (0xCB 0x64), R287. -/
def execBit_4_H (s : State) : Result := testBit8 4 (.reg .h) 2 s

/-- `BIT 4,L` (0xCB 0x65), R287. -/
def execBit_4_L (s : State) : Result := testBit8 4 (.reg .l) 2 s

/-- `BIT 4,A` (0xCB 0x67), R287. -/
def execBit_4_A (s : State) : Result := testBit8 4 (.reg .a) 2 s

/-- `BIT 4,(HL)` (0xCB 0x66), R288. -/
def execBit_4_iHL (s : State) : Result := testBit8 4 (.ind .hl) 3 s

/-- `BIT 5,B` (0xCB 0x68), R287. -/
def execBit_5_B (s : State) : Result := testBit8 5 (.reg .b) 2 s

/-- `BIT 5,C` (0xCB 0x69), R287. -/
def execBit_5_C (s : State) : Result := testBit8 5 (.reg .c) 2 s

/-- `BIT 5,D` (0xCB 0x6A), R287. -/
def execBit_5_D (s : State) : Result := testBit8 5 (.reg .d) 2 s

/-- `BIT 5,E` (0xCB 0x6B), R287. -/
def execBit_5_E (s : State) : Result := testBit8 5 (.reg .e) 2 s

/-- `BIT 5,H` (0xCB 0x6C), R287. -/
def execBit_5_H (s : State) : Result := testBit8 5 (.reg .h) 2 s

/-- `BIT 5,L` (0xCB 0x6D), R287. -/
def execBit_5_L (s : State) : Result := testBit8 5 (.reg .l) 2 s

/-- `BIT 5,A` (0xCB 0x6F), R287. -/
def execBit_5_A (s : State) : Result := testBit8 5 (.reg .a) 2 s

/-- `BIT 5,(HL)` (0xCB 0x6E), R288. -/
def execBit_5_iHL (s : State) : Result := testBit8 5 (.ind .hl) 3 s

/-- `BIT 6,B` (0xCB 0x70), R287. -/
def execBit_6_B (s : State) : Result := testBit8 6 (.reg .b) 2 s

/-- `BIT 6,C` (0xCB 0x71), R287. -/
def execBit_6_C (s : State) : Result := testBit8 6 (.reg .c) 2 s

/-- `BIT 6,D` (0xCB 0x72), R287. -/
def execBit_6_D (s : State) : Result := testBit8 6 (.reg .d) 2 s

/-- `BIT 6,E` (0xCB 0x73), R287. -/
def execBit_6_E (s : State) : Result := testBit8 6 (.reg .e) 2 s

/-- `BIT 6,H` (0xCB 0x74), R287. -/
def execBit_6_H (s : State) : Result := testBit8 6 (.reg .h) 2 s

/-- `BIT 6,L` (0xCB 0x75), R287. -/
def execBit_6_L (s : State) : Result := testBit8 6 (.reg .l) 2 s

/-- `BIT 6,A` (0xCB 0x77), R287. -/
def execBit_6_A (s : State) : Result := testBit8 6 (.reg .a) 2 s

/-- `BIT 6,(HL)` (0xCB 0x76), R288. -/
def execBit_6_iHL (s : State) : Result := testBit8 6 (.ind .hl) 3 s

/-- `BIT 7,B` (0xCB 0x78), R287. -/
def execBit_7_B (s : State) : Result := testBit8 7 (.reg .b) 2 s

/-- `BIT 7,C` (0xCB 0x79), R287. -/
def execBit_7_C (s : State) : Result := testBit8 7 (.reg .c) 2 s

/-- `BIT 7,D` (0xCB 0x7A), R287. -/
def execBit_7_D (s : State) : Result := testBit8 7 (.reg .d) 2 s

/-- `BIT 7,E` (0xCB 0x7B), R287. -/
def execBit_7_E (s : State) : Result := testBit8 7 (.reg .e) 2 s

/-- `BIT 7,H` (0xCB 0x7C), R287. -/
def execBit_7_H (s : State) : Result := testBit8 7 (.reg .h) 2 s

/-- `BIT 7,L` (0xCB 0x7D), R287. -/
def execBit_7_L (s : State) : Result := testBit8 7 (.reg .l) 2 s

/-- `BIT 7,A` (0xCB 0x7F), R287. -/
def execBit_7_A (s : State) : Result := testBit8 7 (.reg .a) 2 s

/-- `BIT 7,(HL)` (0xCB 0x7E), R288. -/
def execBit_7_iHL (s : State) : Result := testBit8 7 (.ind .hl) 3 s

/-- `RES 0,B` (0xCB 0x80), R289. -/
def execRes_0_B (s : State) : Result := change8 (resBit 0) (.reg .b) 2 s

/-- `RES 0,C` (0xCB 0x81), R289. -/
def execRes_0_C (s : State) : Result := change8 (resBit 0) (.reg .c) 2 s

/-- `RES 0,D` (0xCB 0x82), R289. -/
def execRes_0_D (s : State) : Result := change8 (resBit 0) (.reg .d) 2 s

/-- `RES 0,E` (0xCB 0x83), R289. -/
def execRes_0_E (s : State) : Result := change8 (resBit 0) (.reg .e) 2 s

/-- `RES 0,H` (0xCB 0x84), R289. -/
def execRes_0_H (s : State) : Result := change8 (resBit 0) (.reg .h) 2 s

/-- `RES 0,L` (0xCB 0x85), R289. -/
def execRes_0_L (s : State) : Result := change8 (resBit 0) (.reg .l) 2 s

/-- `RES 0,A` (0xCB 0x87), R289. -/
def execRes_0_A (s : State) : Result := change8 (resBit 0) (.reg .a) 2 s

/-- `RES 0,(HL)` (0xCB 0x86), R290. -/
def execRes_0_iHL (s : State) : Result := change8 (resBit 0) (.ind .hl) 4 s

/-- `RES 1,B` (0xCB 0x88), R289. -/
def execRes_1_B (s : State) : Result := change8 (resBit 1) (.reg .b) 2 s

/-- `RES 1,C` (0xCB 0x89), R289. -/
def execRes_1_C (s : State) : Result := change8 (resBit 1) (.reg .c) 2 s

/-- `RES 1,D` (0xCB 0x8A), R289. -/
def execRes_1_D (s : State) : Result := change8 (resBit 1) (.reg .d) 2 s

/-- `RES 1,E` (0xCB 0x8B), R289. -/
def execRes_1_E (s : State) : Result := change8 (resBit 1) (.reg .e) 2 s

/-- `RES 1,H` (0xCB 0x8C), R289. -/
def execRes_1_H (s : State) : Result := change8 (resBit 1) (.reg .h) 2 s

/-- `RES 1,L` (0xCB 0x8D), R289. -/
def execRes_1_L (s : State) : Result := change8 (resBit 1) (.reg .l) 2 s

/-- `RES 1,A` (0xCB 0x8F), R289. -/
def execRes_1_A (s : State) : Result := change8 (resBit 1) (.reg .a) 2 s

/-- `RES 1,(HL)` (0xCB 0x8E), R290. -/
def execRes_1_iHL (s : State) : Result := change8 (resBit 1) (.ind .hl) 4 s

/-- `RES 2,B` (0xCB 0x90), R289. -/
def execRes_2_B (s : State) : Result := change8 (resBit 2) (.reg .b) 2 s

/-- `RES 2,C` (0xCB 0x91), R289. -/
def execRes_2_C (s : State) : Result := change8 (resBit 2) (.reg .c) 2 s

/-- `RES 2,D` (0xCB 0x92), R289. -/
def execRes_2_D (s : State) : Result := change8 (resBit 2) (.reg .d) 2 s

/-- `RES 2,E` (0xCB 0x93), R289. -/
def execRes_2_E (s : State) : Result := change8 (resBit 2) (.reg .e) 2 s

/-- `RES 2,H` (0xCB 0x94), R289. -/
def execRes_2_H (s : State) : Result := change8 (resBit 2) (.reg .h) 2 s

/-- `RES 2,L` (0xCB 0x95), R289. -/
def execRes_2_L (s : State) : Result := change8 (resBit 2) (.reg .l) 2 s

/-- `RES 2,A` (0xCB 0x97), R289. -/
def execRes_2_A (s : State) : Result := change8 (resBit 2) (.reg .a) 2 s

/-- `RES 2,(HL)` (0xCB 0x96), R290. -/
def execRes_2_iHL (s : State) : Result := change8 (resBit 2) (.ind .hl) 4 s

/-- `RES 3,B` (0xCB 0x98), R289. -/
def execRes_3_B (s : State) : Result := change8 (resBit 3) (.reg .b) 2 s

/-- `RES 3,C` (0xCB 0x99), R289. -/
def execRes_3_C (s : State) : Result := change8 (resBit 3) (.reg .c) 2 s

/-- `RES 3,D` (0xCB 0x9A), R289. -/
def execRes_3_D (s : State) : Result := change8 (resBit 3) (.reg .d) 2 s

/-- `RES 3,E` (0xCB 0x9B), R289. -/
def execRes_3_E (s : State) : Result := change8 (resBit 3) (.reg .e) 2 s

/-- `RES 3,H` (0xCB 0x9C), R289. -/
def execRes_3_H (s : State) : Result := change8 (resBit 3) (.reg .h) 2 s

/-- `RES 3,L` (0xCB 0x9D), R289. -/
def execRes_3_L (s : State) : Result := change8 (resBit 3) (.reg .l) 2 s

/-- `RES 3,A` (0xCB 0x9F), R289. -/
def execRes_3_A (s : State) : Result := change8 (resBit 3) (.reg .a) 2 s

/-- `RES 3,(HL)` (0xCB 0x9E), R290. -/
def execRes_3_iHL (s : State) : Result := change8 (resBit 3) (.ind .hl) 4 s

/-- `RES 4,B` (0xCB 0xA0), R289. -/
def execRes_4_B (s : State) : Result := change8 (resBit 4) (.reg .b) 2 s

/-- `RES 4,C` (0xCB 0xA1), R289. -/
def execRes_4_C (s : State) : Result := change8 (resBit 4) (.reg .c) 2 s

/-- `RES 4,D` (0xCB 0xA2), R289. -/
def execRes_4_D (s : State) : Result := change8 (resBit 4) (.reg .d) 2 s

/-- `RES 4,E` (0xCB 0xA3), R289. -/
def execRes_4_E (s : State) : Result := change8 (resBit 4) (.reg .e) 2 s

/-- `RES 4,H` (0xCB 0xA4), R289. -/
def execRes_4_H (s : State) : Result := change8 (resBit 4) (.reg .h) 2 s

/-- `RES 4,L` (0xCB 0xA5), R289. -/
def execRes_4_L (s : State) : Result := change8 (resBit 4) (.reg .l) 2 s

/-- `RES 4,A` (0xCB 0xA7), R289. -/
def execRes_4_A (s : State) : Result := change8 (resBit 4) (.reg .a) 2 s

/-- `RES 4,(HL)` (0xCB 0xA6), R290. -/
def execRes_4_iHL (s : State) : Result := change8 (resBit 4) (.ind .hl) 4 s

/-- `RES 5,B` (0xCB 0xA8), R289. -/
def execRes_5_B (s : State) : Result := change8 (resBit 5) (.reg .b) 2 s

/-- `RES 5,C` (0xCB 0xA9), R289. -/
def execRes_5_C (s : State) : Result := change8 (resBit 5) (.reg .c) 2 s

/-- `RES 5,D` (0xCB 0xAA), R289. -/
def execRes_5_D (s : State) : Result := change8 (resBit 5) (.reg .d) 2 s

/-- `RES 5,E` (0xCB 0xAB), R289. -/
def execRes_5_E (s : State) : Result := change8 (resBit 5) (.reg .e) 2 s

/-- `RES 5,H` (0xCB 0xAC), R289. -/
def execRes_5_H (s : State) : Result := change8 (resBit 5) (.reg .h) 2 s

/-- `RES 5,L` (0xCB 0xAD), R289. -/
def execRes_5_L (s : State) : Result := change8 (resBit 5) (.reg .l) 2 s

/-- `RES 5,A` (0xCB 0xAF), R289. -/
def execRes_5_A (s : State) : Result := change8 (resBit 5) (.reg .a) 2 s

/-- `RES 5,(HL)` (0xCB 0xAE), R290. -/
def execRes_5_iHL (s : State) : Result := change8 (resBit 5) (.ind .hl) 4 s

/-- `RES 6,B` (0xCB 0xB0), R289. -/
def execRes_6_B (s : State) : Result := change8 (resBit 6) (.reg .b) 2 s

/-- `RES 6,C` (0xCB 0xB1), R289. -/
def execRes_6_C (s : State) : Result := change8 (resBit 6) (.reg .c) 2 s

/-- `RES 6,D` (0xCB 0xB2), R289. -/
def execRes_6_D (s : State) : Result := change8 (resBit 6) (.reg .d) 2 s

/-- `RES 6,E` (0xCB 0xB3), R289. -/
def execRes_6_E (s : State) : Result := change8 (resBit 6) (.reg .e) 2 s

/-- `RES 6,H` (0xCB 0xB4), R289. -/
def execRes_6_H (s : State) : Result := change8 (resBit 6) (.reg .h) 2 s

/-- `RES 6,L` (0xCB 0xB5), R289. -/
def execRes_6_L (s : State) : Result := change8 (resBit 6) (.reg .l) 2 s

/-- `RES 6,A` (0xCB 0xB7), R289. -/
def execRes_6_A (s : State) : Result := change8 (resBit 6) (.reg .a) 2 s

/-- `RES 6,(HL)` (0xCB 0xB6), R290. -/
def execRes_6_iHL (s : State) : Result := change8 (resBit 6) (.ind .hl) 4 s

/-- `RES 7,B` (0xCB 0xB8), R289. -/
def execRes_7_B (s : State) : Result := change8 (resBit 7) (.reg .b) 2 s

/-- `RES 7,C` (0xCB 0xB9), R289. -/
def execRes_7_C (s : State) : Result := change8 (resBit 7) (.reg .c) 2 s

/-- `RES 7,D` (0xCB 0xBA), R289. -/
def execRes_7_D (s : State) : Result := change8 (resBit 7) (.reg .d) 2 s

/-- `RES 7,E` (0xCB 0xBB), R289. -/
def execRes_7_E (s : State) : Result := change8 (resBit 7) (.reg .e) 2 s

/-- `RES 7,H` (0xCB 0xBC), R289. -/
def execRes_7_H (s : State) : Result := change8 (resBit 7) (.reg .h) 2 s

/-- `RES 7,L` (0xCB 0xBD), R289. -/
def execRes_7_L (s : State) : Result := change8 (resBit 7) (.reg .l) 2 s

/-- `RES 7,A` (0xCB 0xBF), R289. -/
def execRes_7_A (s : State) : Result := change8 (resBit 7) (.reg .a) 2 s

/-- `RES 7,(HL)` (0xCB 0xBE), R290. -/
def execRes_7_iHL (s : State) : Result := change8 (resBit 7) (.ind .hl) 4 s

/-- `SET 0,B` (0xCB 0xC0), R291. -/
def execSet_0_B (s : State) : Result := change8 (setBit 0) (.reg .b) 2 s

/-- `SET 0,C` (0xCB 0xC1), R291. -/
def execSet_0_C (s : State) : Result := change8 (setBit 0) (.reg .c) 2 s

/-- `SET 0,D` (0xCB 0xC2), R291. -/
def execSet_0_D (s : State) : Result := change8 (setBit 0) (.reg .d) 2 s

/-- `SET 0,E` (0xCB 0xC3), R291. -/
def execSet_0_E (s : State) : Result := change8 (setBit 0) (.reg .e) 2 s

/-- `SET 0,H` (0xCB 0xC4), R291. -/
def execSet_0_H (s : State) : Result := change8 (setBit 0) (.reg .h) 2 s

/-- `SET 0,L` (0xCB 0xC5), R291. -/
def execSet_0_L (s : State) : Result := change8 (setBit 0) (.reg .l) 2 s

/-- `SET 0,A` (0xCB 0xC7), R291. -/
def execSet_0_A (s : State) : Result := change8 (setBit 0) (.reg .a) 2 s

/-- `SET 0,(HL)` (0xCB 0xC6), R292. -/
def execSet_0_iHL (s : State) : Result := change8 (setBit 0) (.ind .hl) 4 s

/-- `SET 1,B` (0xCB 0xC8), R291. -/
def execSet_1_B (s : State) : Result := change8 (setBit 1) (.reg .b) 2 s

/-- `SET 1,C` (0xCB 0xC9), R291. -/
def execSet_1_C (s : State) : Result := change8 (setBit 1) (.reg .c) 2 s

/-- `SET 1,D` (0xCB 0xCA), R291. -/
def execSet_1_D (s : State) : Result := change8 (setBit 1) (.reg .d) 2 s

/-- `SET 1,E` (0xCB 0xCB), R291. -/
def execSet_1_E (s : State) : Result := change8 (setBit 1) (.reg .e) 2 s

/-- `SET 1,H` (0xCB 0xCC), R291. -/
def execSet_1_H (s : State) : Result := change8 (setBit 1) (.reg .h) 2 s

/-- `SET 1,L` (0xCB 0xCD), R291. -/
def execSet_1_L (s : State) : Result := change8 (setBit 1) (.reg .l) 2 s

/-- `SET 1,A` (0xCB 0xCF), R291. -/
def execSet_1_A (s : State) : Result := change8 (setBit 1) (.reg .a) 2 s

/-- `SET 1,(HL)` (0xCB 0xCE), R292. -/
def execSet_1_iHL (s : State) : Result := change8 (setBit 1) (.ind .hl) 4 s

/-- `SET 2,B` (0xCB 0xD0), R291. -/
def execSet_2_B (s : State) : Result := change8 (setBit 2) (.reg .b) 2 s

/-- `SET 2,C` (0xCB 0xD1), R291. -/
def execSet_2_C (s : State) : Result := change8 (setBit 2) (.reg .c) 2 s

/-- `SET 2,D` (0xCB 0xD2), R291. -/
def execSet_2_D (s : State) : Result := change8 (setBit 2) (.reg .d) 2 s

/-- `SET 2,E` (0xCB 0xD3), R291. -/
def execSet_2_E (s : State) : Result := change8 (setBit 2) (.reg .e) 2 s

/-- `SET 2,H` (0xCB 0xD4), R291. -/
def execSet_2_H (s : State) : Result := change8 (setBit 2) (.reg .h) 2 s

/-- `SET 2,L` (0xCB 0xD5), R291. -/
def execSet_2_L (s : State) : Result := change8 (setBit 2) (.reg .l) 2 s

/-- `SET 2,A` (0xCB 0xD7), R291. -/
def execSet_2_A (s : State) : Result := change8 (setBit 2) (.reg .a) 2 s

/-- `SET 2,(HL)` (0xCB 0xD6), R292. -/
def execSet_2_iHL (s : State) : Result := change8 (setBit 2) (.ind .hl) 4 s

/-- `SET 3,B` (0xCB 0xD8), R291. -/
def execSet_3_B (s : State) : Result := change8 (setBit 3) (.reg .b) 2 s

/-- `SET 3,C` (0xCB 0xD9), R291. -/
def execSet_3_C (s : State) : Result := change8 (setBit 3) (.reg .c) 2 s

/-- `SET 3,D` (0xCB 0xDA), R291. -/
def execSet_3_D (s : State) : Result := change8 (setBit 3) (.reg .d) 2 s

/-- `SET 3,E` (0xCB 0xDB), R291. -/
def execSet_3_E (s : State) : Result := change8 (setBit 3) (.reg .e) 2 s

/-- `SET 3,H` (0xCB 0xDC), R291. -/
def execSet_3_H (s : State) : Result := change8 (setBit 3) (.reg .h) 2 s

/-- `SET 3,L` (0xCB 0xDD), R291. -/
def execSet_3_L (s : State) : Result := change8 (setBit 3) (.reg .l) 2 s

/-- `SET 3,A` (0xCB 0xDF), R291. -/
def execSet_3_A (s : State) : Result := change8 (setBit 3) (.reg .a) 2 s

/-- `SET 3,(HL)` (0xCB 0xDE), R292. -/
def execSet_3_iHL (s : State) : Result := change8 (setBit 3) (.ind .hl) 4 s

/-- `SET 4,B` (0xCB 0xE0), R291. -/
def execSet_4_B (s : State) : Result := change8 (setBit 4) (.reg .b) 2 s

/-- `SET 4,C` (0xCB 0xE1), R291. -/
def execSet_4_C (s : State) : Result := change8 (setBit 4) (.reg .c) 2 s

/-- `SET 4,D` (0xCB 0xE2), R291. -/
def execSet_4_D (s : State) : Result := change8 (setBit 4) (.reg .d) 2 s

/-- `SET 4,E` (0xCB 0xE3), R291. -/
def execSet_4_E (s : State) : Result := change8 (setBit 4) (.reg .e) 2 s

/-- `SET 4,H` (0xCB 0xE4), R291. -/
def execSet_4_H (s : State) : Result := change8 (setBit 4) (.reg .h) 2 s

/-- `SET 4,L` (0xCB 0xE5), R291. -/
def execSet_4_L (s : State) : Result := change8 (setBit 4) (.reg .l) 2 s

/-- `SET 4,A` (0xCB 0xE7), R291. -/
def execSet_4_A (s : State) : Result := change8 (setBit 4) (.reg .a) 2 s

/-- `SET 4,(HL)` (0xCB 0xE6), R292. -/
def execSet_4_iHL (s : State) : Result := change8 (setBit 4) (.ind .hl) 4 s

/-- `SET 5,B` (0xCB 0xE8), R291. -/
def execSet_5_B (s : State) : Result := change8 (setBit 5) (.reg .b) 2 s

/-- `SET 5,C` (0xCB 0xE9), R291. -/
def execSet_5_C (s : State) : Result := change8 (setBit 5) (.reg .c) 2 s

/-- `SET 5,D` (0xCB 0xEA), R291. -/
def execSet_5_D (s : State) : Result := change8 (setBit 5) (.reg .d) 2 s

/-- `SET 5,E` (0xCB 0xEB), R291. -/
def execSet_5_E (s : State) : Result := change8 (setBit 5) (.reg .e) 2 s

/-- `SET 5,H` (0xCB 0xEC), R291. -/
def execSet_5_H (s : State) : Result := change8 (setBit 5) (.reg .h) 2 s

/-- `SET 5,L` (0xCB 0xED), R291. -/
def execSet_5_L (s : State) : Result := change8 (setBit 5) (.reg .l) 2 s

/-- `SET 5,A` (0xCB 0xEF), R291. -/
def execSet_5_A (s : State) : Result := change8 (setBit 5) (.reg .a) 2 s

/-- `SET 5,(HL)` (0xCB 0xEE), R292. -/
def execSet_5_iHL (s : State) : Result := change8 (setBit 5) (.ind .hl) 4 s

/-- `SET 6,B` (0xCB 0xF0), R291. -/
def execSet_6_B (s : State) : Result := change8 (setBit 6) (.reg .b) 2 s

/-- `SET 6,C` (0xCB 0xF1), R291. -/
def execSet_6_C (s : State) : Result := change8 (setBit 6) (.reg .c) 2 s

/-- `SET 6,D` (0xCB 0xF2), R291. -/
def execSet_6_D (s : State) : Result := change8 (setBit 6) (.reg .d) 2 s

/-- `SET 6,E` (0xCB 0xF3), R291. -/
def execSet_6_E (s : State) : Result := change8 (setBit 6) (.reg .e) 2 s

/-- `SET 6,H` (0xCB 0xF4), R291. -/
def execSet_6_H (s : State) : Result := change8 (setBit 6) (.reg .h) 2 s

/-- `SET 6,L` (0xCB 0xF5), R291. -/
def execSet_6_L (s : State) : Result := change8 (setBit 6) (.reg .l) 2 s

/-- `SET 6,A` (0xCB 0xF7), R291. -/
def execSet_6_A (s : State) : Result := change8 (setBit 6) (.reg .a) 2 s

/-- `SET 6,(HL)` (0xCB 0xF6), R292. -/
def execSet_6_iHL (s : State) : Result := change8 (setBit 6) (.ind .hl) 4 s

/-- `SET 7,B` (0xCB 0xF8), R291. -/
def execSet_7_B (s : State) : Result := change8 (setBit 7) (.reg .b) 2 s

/-- `SET 7,C` (0xCB 0xF9), R291. -/
def execSet_7_C (s : State) : Result := change8 (setBit 7) (.reg .c) 2 s

/-- `SET 7,D` (0xCB 0xFA), R291. -/
def execSet_7_D (s : State) : Result := change8 (setBit 7) (.reg .d) 2 s

/-- `SET 7,E` (0xCB 0xFB), R291. -/
def execSet_7_E (s : State) : Result := change8 (setBit 7) (.reg .e) 2 s

/-- `SET 7,H` (0xCB 0xFC), R291. -/
def execSet_7_H (s : State) : Result := change8 (setBit 7) (.reg .h) 2 s

/-- `SET 7,L` (0xCB 0xFD), R291. -/
def execSet_7_L (s : State) : Result := change8 (setBit 7) (.reg .l) 2 s

/-- `SET 7,A` (0xCB 0xFF), R291. -/
def execSet_7_A (s : State) : Result := change8 (setBit 7) (.reg .a) 2 s

/-- `SET 7,(HL)` (0xCB 0xFE), R292. -/
def execSet_7_iHL (s : State) : Result := change8 (setBit 7) (.ind .hl) 4 s

/-- `PREFIX CB` (0xCB), R326. -/
def execPrefix_CB (op2 : Byte) (s : State) : Result := cbByFields op2 s

end Sys2Proof.Machine
end

