-- ==== Sys2Proof/Machine/Control.lean ====
section
/-! DEFINITION. Control transfer (46_control.md R300 to R312). PC already points past the whole instruction when a target is computed or
a return address pushed (10_state.md R25). -/

namespace Sys2Proof.Machine

/-- `PC <- a` (R301). -/
def jump (a : Word) (cycles : Nat) (s : State) : Result := done cycles { skip 3 s with pc := a }

/-- `if cc then PC <- a` (R302). -/
def jumpIf (k : Cond) (a : Word) (s : State) : Result :=
  if condHolds k s then jump a 4 s else done 3 (skip 3 s)

/-- `PC <- HL` (R303). -/
def jumpHl (s : State) : Result := done 1 { skip 1 s with pc := regHL s }

/-- `PC <- PC + d`, PC being the address after the two bytes (R304). -/
def jumpRel (e : Byte) (cycles : Nat) (s : State) : Result :=
  let s := skip 2 s
  done cycles { s with pc := s.pc + sext16 e }

/-- `if cc then PC <- PC + d` (R305). -/
def jumpRelIf (k : Cond) (e : Byte) (s : State) : Result :=
  if condHolds k s then jumpRel e 3 s else done 2 (skip 2 s)

/-- `Push16(PC); PC <- a` (R306). -/
def call (a : Word) (s : State) : Result :=
  let s := skip 3 s
  done 6 { push16 s.pc s with pc := a }

/-- `if cc then (Push16(PC); PC <- a)` (R307). -/
def callIf (k : Cond) (a : Word) (s : State) : Result :=
  if condHolds k s then call a s else done 3 (skip 3 s)

/-- `PC <- Pop16()` (R308). -/
def ret (cycles : Nat) (s : State) : Result := done cycles { popState (skip 1 s) with pc := popValue s }

/-- `if cc then PC <- Pop16()`; untaken it reads no stack byte (R309). -/
def retIf (k : Cond) (s : State) : Result :=
  if condHolds k s then ret 5 s else done 2 (skip 1 s)

/-- `Push16(PC); PC <- t` (R312). -/
def restart (t : Word) (s : State) : Result :=
  let s := skip 1 s
  done 4 { push16 s.pc s with pc := t }

/-- `JP nn` (0xC3), R301. -/
def execJp_nn (nn : Word) (s : State) : Result := jump nn 4 s

/-- `JP NZ,nn` (0xC2), R302. -/
def execJp_NZ_nn (nn : Word) (s : State) : Result := jumpIf .nz nn s

/-- `JP Z,nn` (0xCA), R302. -/
def execJp_Z_nn (nn : Word) (s : State) : Result := jumpIf .z nn s

/-- `JP NC,nn` (0xD2), R302. -/
def execJp_NC_nn (nn : Word) (s : State) : Result := jumpIf .nc nn s

/-- `JP C,nn` (0xDA), R302. -/
def execJp_C_nn (nn : Word) (s : State) : Result := jumpIf .c nn s

/-- `JP HL` (0xE9), R303. -/
def execJp_HL (s : State) : Result := jumpHl s

/-- `JR e` (0x18), R304. -/
def execJr_e (e : Byte) (s : State) : Result := jumpRel e 3 s

/-- `JR NZ,e` (0x20), R305. -/
def execJr_NZ_e (e : Byte) (s : State) : Result := jumpRelIf .nz e s

/-- `JR Z,e` (0x28), R305. -/
def execJr_Z_e (e : Byte) (s : State) : Result := jumpRelIf .z e s

/-- `JR NC,e` (0x30), R305. -/
def execJr_NC_e (e : Byte) (s : State) : Result := jumpRelIf .nc e s

/-- `JR C,e` (0x38), R305. -/
def execJr_C_e (e : Byte) (s : State) : Result := jumpRelIf .c e s

/-- `CALL nn` (0xCD), R306. -/
def execCall_nn (nn : Word) (s : State) : Result := call nn s

/-- `CALL NZ,nn` (0xC4), R307. -/
def execCall_NZ_nn (nn : Word) (s : State) : Result := callIf .nz nn s

/-- `CALL Z,nn` (0xCC), R307. -/
def execCall_Z_nn (nn : Word) (s : State) : Result := callIf .z nn s

/-- `CALL NC,nn` (0xD4), R307. -/
def execCall_NC_nn (nn : Word) (s : State) : Result := callIf .nc nn s

/-- `CALL C,nn` (0xDC), R307. -/
def execCall_C_nn (nn : Word) (s : State) : Result := callIf .c nn s

/-- `RET` (0xC9), R308. -/
def execRet (s : State) : Result := ret 4 s

/-- `RET NZ` (0xC0), R309. -/
def execRet_NZ (s : State) : Result := retIf .nz s

/-- `RET Z` (0xC8), R309. -/
def execRet_Z (s : State) : Result := retIf .z s

/-- `RET NC` (0xD0), R309. -/
def execRet_NC (s : State) : Result := retIf .nc s

/-- `RET C` (0xD8), R309. -/
def execRet_C (s : State) : Result := retIf .c s

/-- `RETI` (0xD9), R310. -/
def execReti (s : State) : Result := done 4 (returnFromInterrupt (skip 1 s))

/-- `RST 00H` (0xC7), R312. -/
def execRst_00H (s : State) : Result := restart 0x00 s

/-- `RST 08H` (0xCF), R312. -/
def execRst_08H (s : State) : Result := restart 0x08 s

/-- `RST 10H` (0xD7), R312. -/
def execRst_10H (s : State) : Result := restart 0x10 s

/-- `RST 18H` (0xDF), R312. -/
def execRst_18H (s : State) : Result := restart 0x18 s

/-- `RST 20H` (0xE7), R312. -/
def execRst_20H (s : State) : Result := restart 0x20 s

/-- `RST 28H` (0xEF), R312. -/
def execRst_28H (s : State) : Result := restart 0x28 s

/-- `RST 30H` (0xF7), R312. -/
def execRst_30H (s : State) : Result := restart 0x30 s

/-- `RST 38H` (0xFF), R312. -/
def execRst_38H (s : State) : Result := restart 0x38 s

end Sys2Proof.Machine
end

