-- ==== Sys2Proof/Machine/System.lean ====
section
/-! DEFINITION. NOP, HALT, STOP, DI, EI and the unassigned opcodes (47_system.md R320 to R330). -/

namespace Sys2Proof.Machine

/-- STOP: its second byte is fetched and ignored (R323, D8). -/
def stopAsNop (_n : Byte) (s : State) : Result := done 1 (skip 2 s)

/-- An unassigned opcode: PC past the opcode byte, the fault recorded, nothing else changed; the returned count is 1 and never
used. Under the policy `nop` it is a NOP (R330, D7). -/
def illegal (op : Byte) (policy : IllegalOpcodePolicy) (s : State) : Result :=
  match policy with
  | .fault => done 1 (raiseIllegal op (skip 1 s))
  | .nop => done 1 (skip 1 s)

/-- `NOP` (0x00), R321. -/
def execNop (s : State) : Result := done 1 (skip 1 s)

/-- `HALT` (0x76), R322. -/
def execHalt (s : State) : Result := done 1 { skip 1 s with halted := true }

/-- `STOP` (0x10), R323. -/
def execStop (n : Byte) (s : State) : Result := stopAsNop n s

/-- `DI` (0xF3), R324. -/
def execDi (s : State) : Result := done 1 { skip 1 s with ime := false, imeEnabling := false }

/-- `EI` (0xFB), R325. -/
def execEi (s : State) : Result := done 1 { skip 1 s with imeEnabling := true }

/-- `ILLEGAL_D3` (0xD3), R330. -/
def execIllegal_D3 (s : State) : Result := illegal 0xD3 Config.illegalOpcodePolicy s

/-- `ILLEGAL_DB` (0xDB), R330. -/
def execIllegal_DB (s : State) : Result := illegal 0xDB Config.illegalOpcodePolicy s

/-- `ILLEGAL_DD` (0xDD), R330. -/
def execIllegal_DD (s : State) : Result := illegal 0xDD Config.illegalOpcodePolicy s

/-- `ILLEGAL_E3` (0xE3), R330. -/
def execIllegal_E3 (s : State) : Result := illegal 0xE3 Config.illegalOpcodePolicy s

/-- `ILLEGAL_E4` (0xE4), R330. -/
def execIllegal_E4 (s : State) : Result := illegal 0xE4 Config.illegalOpcodePolicy s

/-- `ILLEGAL_EB` (0xEB), R330. -/
def execIllegal_EB (s : State) : Result := illegal 0xEB Config.illegalOpcodePolicy s

/-- `ILLEGAL_EC` (0xEC), R330. -/
def execIllegal_EC (s : State) : Result := illegal 0xEC Config.illegalOpcodePolicy s

/-- `ILLEGAL_ED` (0xED), R330. -/
def execIllegal_ED (s : State) : Result := illegal 0xED Config.illegalOpcodePolicy s

/-- `ILLEGAL_F4` (0xF4), R330. -/
def execIllegal_F4 (s : State) : Result := illegal 0xF4 Config.illegalOpcodePolicy s

/-- `ILLEGAL_FC` (0xFC), R330. -/
def execIllegal_FC (s : State) : Result := illegal 0xFC Config.illegalOpcodePolicy s

/-- `ILLEGAL_FD` (0xFD), R330. -/
def execIllegal_FD (s : State) : Result := illegal 0xFD Config.illegalOpcodePolicy s

end Sys2Proof.Machine
end

