-- ==== Sys2Proof/Machine/Dma.lean ====
section
/-! DEFINITION. The OAM DMA engine's tick (61_timer_dma_io.md R391, R392). -/

namespace Sys2Proof.Machine

/-- The address the engine copies from: `dma_page * 256 + dma_offset` (R390, R391). -/
def dmaSource (d : Dma) : Word := BitVec.ofNat 16 (d.page.toNat * 256 + d.offset)

/-- `DmaTick()` (R391), called while a transfer is active: one byte to OAM, unmasked, straight to the array. -/
def dmaTick (s : State) : State :=
  { s with
    ppu := { s.ppu with oam := Store.write s.ppu.oam s.dma.offset (rawRead (dmaSource s.dma) s) }
    dma := { s.dma with offset := s.dma.offset + 1, active := if s.dma.offset + 1 = 160 then false else s.dma.active } }

end Sys2Proof.Machine
end

