-- ==== Sys2Proof/Machine/Ppu.lean ====
section
/-! DEFINITION. The PPU's tick (62_ppu.md R410 to R446). The PPU reads VRAM and OAM as arrays, never through the bus (R410); an
address of the spec's text stands here less 0x8000. -/

namespace Sys2Proof.Machine

/-! ## Palettes and pixels -/

/-- `Shade(P, i) = (P >> (2 * i)) & 3` (R415). -/
def shadeOf (p : Byte) (i : BitVec 2) : BitVec 2 := p.extractLsb' (2 * i.toNat) 2

/-- The colour index at bit `b` of a tile row's two bytes: `(hi[b] << 1) | lo[b]` (R412). -/
def colourAt (lo hi : Byte) (b : Nat) : BitVec 2 :=
  BitVec.ofNat 2 (2 * (hi.getLsbD b).toNat + (lo.getLsbD b).toNat)

/-- A tile row's eight pixels, left first: bits 7 down to 0 (R412, R436). -/
def rowPixels (lo hi : Byte) : List (BitVec 2) := [7, 6, 5, 4, 3, 2, 1, 0].map (colourAt lo hi)

/-! ## OAM scan (R430) -/

/-- OAM entry `i` (R414). -/
def oamEntry (oam : Memory) (i : Nat) : Candidate where
  y := Store.read oam (4 * i)
  x := Store.read oam (4 * i + 1)
  tile := Store.read oam (4 * i + 2)
  attr := Store.read oam (4 * i + 3)
  index := i

/-- "y <= LY + 16 and LY + 16 < y + sprite_height", on unbounded integers. -/
def onLine (ly : Byte) (height : Nat) (c : Candidate) : Bool :=
  decide (c.y.toNat ≤ ly.toNat + 16) && decide (ly.toNat + 16 < c.y.toNat + height)

/-- A record put at its place by ascending X, before the first one with an X as large or larger. -/
def insertByX (c : Candidate) : List Candidate → List Candidate
  | [] => [c]
  | k :: rest => if c.x.toNat ≤ k.x.toNat then c :: k :: rest else k :: insertByX c rest

/-- The stable sort by ascending X: equal X keep their order. -/
def sortByX : List Candidate → List Candidate
  | [] => []
  | c :: rest => insertByX c (sortByX rest)

/-- `ScanOam()`: the first ten entries in OAM order that meet the line, sorted. -/
def scanOam (p : Ppu) : Ppu :=
  let height := if p.lcdc.getLsbD 2 then 16 else 8
  let found := ((List.range 40).map (oamEntry p.oam)).filter (onLine p.ly height)
  { p with spriteHeight := height, candidates := sortByX (found.take 10) }

/-! ## Fetcher (R435 to R439) -/

/-- `StartLine()` (R435). -/
def startLine (p : Ppu) : Ppu :=
  { p with
    fetchPhase := .tile
    fetchCol := 0
    fifo := []
    discard := p.scx.toNat % 8
    lx := 0
    winActive := false }

/-- `TileRowAddr(t, r)` less 0x8000: `t` unsigned from 0x8000, or signed from 0x9000 (R437). -/
def tileRowAddr (lcdc t : Byte) (r : Nat) : Nat :=
  if lcdc.getLsbD 4 then 16 * t.toNat + 2 * r else (0x1000 + 16 * t.toInt + 2 * r).toNat

/-- The background's pixel row, `(LY + SCY) & 0xFF` (R438). -/
def bgRow (p : Ppu) : Nat := (p.ly.toNat + p.scy.toNat) % 256

/-- `MapAddr()` less 0x8000 (R438, R439). -/
def mapAddr (p : Ppu) : Nat :=
  if p.winActive then
    (if p.lcdc.getLsbD 6 then 0x1C00 else 0x1800) + 32 * (p.windowLine / 8) + p.fetchCol % 32
  else
    (if p.lcdc.getLsbD 3 then 0x1C00 else 0x1800) + 32 * (bgRow p / 8) + (p.scx.toNat / 8 + p.fetchCol) % 32

/-- `Row()` (R438, R439). -/
def fetchRow (p : Ppu) : Nat := if p.winActive then p.windowLine % 8 else bgRow p % 8

/-- `FetcherStep()` (R436). -/
def fetcherStep (p : Ppu) : Ppu :=
  match p.fetchPhase with
  | .tile => { p with tileNo := Store.read p.vram (mapAddr p), fetchPhase := .low }
  | .low => { p with dataLo := Store.read p.vram (tileRowAddr p.lcdc p.tileNo (fetchRow p)), fetchPhase := .high }
  | .high => { p with dataHi := Store.read p.vram (tileRowAddr p.lcdc p.tileNo (fetchRow p) + 1), fetchPhase := .push }
  | .push =>
    if p.fifo.length ≤ 8 then
      { p with fifo := p.fifo ++ rowPixels p.dataLo p.dataHi, fetchCol := p.fetchCol + 1, fetchPhase := .tile }
    else p

/-! ## Pixel output (R440 to R443) -/

/-- The sprite row that a candidate shows on this line, Y-flip applied (R442). -/
def spriteRow (p : Ppu) (k : Candidate) : Nat :=
  let row := p.ly.toNat + 16 - k.y.toNat
  if k.attr.getLsbD 6 then p.spriteHeight - 1 - row else row

/-- The colour of a candidate at its column `col` (R442). -/
def spriteColour (p : Ppu) (k : Candidate) (col : Nat) : BitVec 2 :=
  let tile := if p.spriteHeight = 16 then k.tile &&& 0xFE else k.tile
  let addr := 16 * tile.toNat + 2 * spriteRow p k
  colourAt (Store.read p.vram addr) (Store.read p.vram (addr + 1)) (if k.attr.getLsbD 5 then col else 7 - col)

/-- `SpriteAt(lx)` (R442): the first candidate with an opaque pixel at this column: its colour and attributes. -/
def spriteAt (p : Ppu) : List Candidate → Option (BitVec 2 × Byte)
  | [] => none
  | k :: rest =>
    let col := p.lx + 8 - k.x.toNat
    if k.x.toNat ≤ p.lx + 8 ∧ col < 8 ∧ spriteColour p k col ≠ 0 then some (spriteColour p k col, k.attr)
    else spriteAt p rest

/-- The shade that pixel (`lx`, LY) gets from the background colour `c` and the sprites (R441; log entry 23 on R451's two-sprite
rows). -/
def composite (p : Ppu) (c : BitVec 2) : BitVec 2 :=
  let bgc := if p.lcdc.getLsbD 0 then c else 0
  match if p.lcdc.getLsbD 1 then spriteAt p p.candidates else none with
  | some (sc, attr) =>
    if attr.getLsbD 7 ∧ bgc ≠ 0 then shadeOf p.bgp bgc
    else shadeOf (if attr.getLsbD 4 then p.obp1 else p.obp0) sc
  | none => shadeOf p.bgp bgc

/-- `WritePixel(c)` (R441). -/
def writePixel (p : Ppu) (c : BitVec 2) : Ppu :=
  { p with framebuffer := Store.write p.framebuffer (160 * p.ly.toNat + p.lx) (composite p c), lx := p.lx + 1 }

/-- The window's start condition (R443). -/
def windowStarts (p : Ppu) : Bool :=
  p.lcdc.getLsbD 5 && (!p.winActive && (decide (p.wy.toNat ≤ p.ly.toNat) &&
    (decide (p.wx.toNat ≤ 166) && decide (p.wx.toNat ≤ p.lx + 7))))

/-- The window starts: the FIFO is emptied and the fetcher restarts at the window's column 0 (R440). -/
def startWindow (p : Ppu) : Ppu :=
  { p with winActive := true, fifo := [], fetchPhase := .tile, fetchCol := 0, discard := 7 - p.wx.toNat }

/-- `OutputStep()` (R440). Until the window starts the background is shown; the window row of R451 prints 0 in columns 0 to 3, where
its own set-up gives the background 0 2 3 3. DESIGN CHOICE (log entry 23): the rules are followed. -/
def outputStep (p : Ppu) : Ppu :=
  if windowStarts p then startWindow p
  else
    match p.fifo with
    | [] => p
    | c :: rest =>
      if 0 < p.discard then { p with fifo := rest, discard := p.discard - 1 } else writePixel { p with fifo := rest } c

/-! ## The mode machine (R421 to R425) -/

/-- The requests of one PPU tick: VBlank and LCD-STAT. -/
structure PpuRequests where
  vblank : Bool
  lcdStat : Bool
  deriving DecidableEq, Repr

/-- No request. -/
def PpuRequests.none : PpuRequests := ⟨false, false⟩

/-- STAT[3], the HBLANK source's enable (R47). -/
def hblankEnabled (p : Ppu) : Bool := p.statEnables.getLsbD 0

/-- STAT[4], the VBLANK source's enable (R47). -/
def vblankEnabled (p : Ppu) : Bool := p.statEnables.getLsbD 1

/-- STAT[5], the OAMSCAN source's enable (R47). -/
def oamScanEnabled (p : Ppu) : Bool := p.statEnables.getLsbD 2

/-- STAT[6], the LYC source's enable (R47). -/
def lycEnabled (p : Ppu) : Bool := p.statEnables.getLsbD 3

/-- OAMSCAN: at dot 80 the line is scanned and drawing starts. -/
def oamScanTick (p : Ppu) : Ppu :=
  if p.lineDot = 80 then { startLine (scanOam p) with mode := .drawPixels } else p

/-- DRAWPIXELS: the fetcher every other dot, then the output; after the 160th pixel HBLANK, with the coincidence latched
(R423). -/
def drawTick (p : Ppu) : Ppu × PpuRequests :=
  let p := outputStep (if (p.lineDot - 81) % 2 = 0 then fetcherStep p else p)
  if p.lx = 160 then
    let same := p.ly == p.lyc
    ({ p with mode := .hblank, coincidence := same }, ⟨false, (lycEnabled p && same) || hblankEnabled p⟩)
  else (p, .none)

/-- Entering VBLANK: the frame is counted and becomes the host's view (R424, R446, D49). -/
def enterVBlank (p : Ppu) : Ppu :=
  { p with mode := .vblank, frameCount := p.frameCount + 1, front := p.framebuffer }

/-- HBLANK: at dot 456 the next line, or VBLANK (R424). -/
def hblankTick (p : Ppu) : Ppu × PpuRequests :=
  if p.lineDot = 456 then
    let p := { p with
      lineDot := 0
      ly := p.ly + 1
      windowLine := if p.winActive then p.windowLine + 1 else p.windowLine }
    if 144 ≤ p.ly.toNat then (enterVBlank p, ⟨true, vblankEnabled p⟩)
    else ({ p with mode := .oamScan }, ⟨false, oamScanEnabled p⟩)
  else (p, .none)

/-- VBLANK: at dot 456 the next line; after line 153 the frame wraps. -/
def vblankTick (p : Ppu) : Ppu × PpuRequests :=
  if p.lineDot = 456 then
    let p := { p with lineDot := 0, ly := p.ly + 1 }
    if p.ly = 154 then ({ p with ly := 0, windowLine := 0, mode := .oamScan }, ⟨false, oamScanEnabled p⟩)
    else (p, .none)
  else (p, .none)

/-- `PpuTick()` (R421). -/
def ppuTick (p : Ppu) : Ppu × PpuRequests :=
  let p := { p with lineDot := p.lineDot + 1 }
  match p.mode with
  | .oamScan => (oamScanTick p, .none)
  | .drawPixels => drawTick p
  | .hblank => hblankTick p
  | .vblank => vblankTick p

end Sys2Proof.Machine
end

