-- ==== Sys2Proof/Machine/Timer.lean ====
section
/-! DEFINITION. The timer's tick (61_timer_dma_io.md R380 to R383). -/

namespace Sys2Proof.Machine

/-- The bit of `div16` whose falling edge counts, by TAC[1:0] (R381, R382). -/
def timerBit (tac : BitVec 3) : Nat :=
  match (tac.extractLsb' 0 2).toNat with
  | 0 => 9
  | 1 => 3
  | 2 => 5
  | _ => 7

/-- Does the increment of `div16` make TIMA count? The timer is enabled and its bit falls from 1 to 0 (R381). -/
def timerEdge (t : Timer) : Bool :=
  t.tac.getLsbD 2 && (t.div16.getLsbD (timerBit t.tac) && !(t.div16 + 1).getLsbD (timerBit t.tac))

/-- `TimerTick()` (R381): the timer one tick later, and whether it requests the Timer interrupt. -/
def timerTick (t : Timer) : Timer × Bool :=
  let t' := { t with div16 := t.div16 + 1 }
  if timerEdge t then
    if t.tima = 0xFF then ({ t' with tima := t.tma }, true) else ({ t' with tima := t.tima + 1 }, false)
  else (t', false)

end Sys2Proof.Machine
end

