-- ==== Sys2Proof/Machine/Clock.lean ====
section
/-! DEFINITION. The CPU step (60_exceptions.md R340) and the master clock (20_memory.md R100, R101). -/

namespace Sys2Proof.Machine

/-! ## The CPU step (R340) -/

/-- Step 1: a halted CPU wakes when an enabled source is pending, whatever IME holds. -/
def wake (s : State) : State := if pending s ≠ 0 then { s with halted := false } else s

/-- Step 2: the source that is serviced in this step, if any. -/
def dispatching (s : State) : Option IntSource :=
  if s.ime = true ∧ s.halted = false then highestPriority (pending s) else none

/-- The instruction at PC, its bytes read through the bus (steps 4 and 6; R96). All three bytes a longest instruction has are read
here; reading has no side effect (R90; log entry 7). -/
def fetch (s : State) : Instr := decode (busRead s.pc s) (busRead (s.pc + 1) s) (busRead (s.pc + 2) s)

/-- Step 5: an EI of the previous instruction takes effect after the opcode fetch and before the execution (D2). -/
def promote (s : State) : State := if s.imeEnabling then { s with ime := true, imeEnabling := false } else s

/-- `CpuStep()`: the state after it holds the M-cycles it returned in `cyclesLeft`. -/
def cpuStep (s : State) : Result :=
  let s := wake s
  match dispatching s with
  | some i => done Config.intDispatchMCycles (takeInterrupt i s)
  | none => if s.halted then done 1 s else exec (fetch s) (promote s)

/-- One M-cycle passes (R101). -/
def burn (s : State) : State := { s with cyclesLeft := s.cyclesLeft - 1 }

/-- The outcome with a function applied to its next state. -/
def Result.thenDo (r : Result) (f : State → State) : Result :=
  match r with
  | .next t => .next (f t)
  | .fault x => .fault x
  | .refused x => .refused x

/-- `CpuClock()` (R101): with the fault set nothing happens; a CPU with no cycle left takes its next step; one M-cycle passes. -/
def cpuClock (s : State) : Result :=
  if s.fault.isSome then .next s
  else if s.cyclesLeft = 0 then (cpuStep s).thenDo burn
  else .next (burn s)

/-! ## The devices' part of a tick -/

/-- A device's request: its IF bit is set (R345). -/
def request (i : IntSource) (asked : Bool) (s : State) : State :=
  if asked then { s with ifReg := s.ifReg ||| requestBit i } else s

/-- The timer's part of a tick (R381, R383). -/
def timerPart (s : State) : State :=
  request .timer (timerTick s.timer).2 { s with timer := (timerTick s.timer).1 }

/-- The DMA engine's part of a tick: tested after the CPU has acted (R100). -/
def dmaPart (s : State) : State := if s.dma.active then dmaTick s else s

/-- The PPU's part of a tick (R421). -/
def ppuPart (s : State) : State :=
  let (p, q) := ppuTick s.ppu
  request .lcdStat q.lcdStat (request .vblank q.vblank { s with ppu := p })

/-- Timer, then DMA, then PPU (R100). -/
def devices (s : State) : State := ppuPart (dmaPart (timerPart s))

/-! ## The master clock -/

/-- The tick counter advanced (R100). -/
def countTick (s : State) : State := { s with ticks := s.ticks + 1 }

/-- Is this the tick of four in which the CPU acts? (R100, TICK_PHASE, D1) -/
def cpuPhase (s : State) : Bool := s.ticks % Config.ticksPerMCycle == Config.tickPhase

/-- `Tick()` (R100): the counter, the CPU on every fourth tick, then the devices. -/
def tick (s : State) : Result :=
  let s := countTick s
  (if cpuPhase s then cpuClock s else .next s).thenDo devices

end Sys2Proof.Machine
end

