-- ==== Sys2Proof/Machine/OpcodeTable.lean ====
section
/-! DEFINITION. The instruction descriptors: the 512 rows of opcode_table.json, by opcode value (30_encoding.md R139, 10_state.md R58),
for the host's lookup (70_reset_and_hazards.md R531 (c)). Nothing of them is state. -/

namespace Sys2Proof

/-! ## What a row holds (R139) -/

/-- The key of a row: a value of the first byte, or of the byte after the prefix. -/
inductive OpcodeValue where
  | main (op : Byte)
  | cb (op2 : Byte)
  deriving DecidableEq, Repr

/-- The five formats (R121). -/
inductive Format where
  | op | opN8 | opE8 | opN16 | cbOp
  deriving DecidableEq, Repr

/-- One byte of `encoding`: fixed bits, or eight bits of an immediate named by R139's letter. -/
inductive PatternByte where
  | fixed (bits : Byte)
  | n | e | l | h
  deriving DecidableEq, Repr

/-- The selectors that `fields` can name (R139, R123). -/
inductive FieldName where
  | dstR8 | srcR8 | r8 | r16 | r16stk | cc | alu | rot | b | t
  deriving DecidableEq, Repr

/-- A row. A count or a length is none where the table has null. `matchValue` and `mask` are over the first byte, or over the two
bytes of a CB row written first byte high. -/
structure Descriptor where
  mnemonic : String
  format : Format
  matchValue : Nat
  mask : Nat
  encoding : List PatternByte
  length : Option Nat
  cycles : Option Nat
  cyclesTaken : Option Nat
  fields : List (FieldName × Nat)
  /-- The number of the rule that gives the semantics: 151 stands for R151. -/
  rule : Nat
  src : String
  deriving DecidableEq, Repr

/-! ## The columns -/

/-- The constructor of a row; an operand of 0 stands for any. The prefix has its own row. -/
def rowInstr : OpcodeValue → Instr
  | .main op => if op = Config.cbPrefix then .prefix_CB 0 else decode op 0 0
  | .cb op2 => decodeCb op2

/-- `format` (R121): by length, and OP_E8 for JR, ADD SP,e and LD HL,SP+e; the prefix row itself is OP. -/
def formatOf : OpcodeValue → Format
  | .main op =>
    if op = Config.cbPrefix then .op
    else
      match lengthOf op with
      | 3 => .opN16
      | 2 => if op ∈ [0x18, 0x20, 0x28, 0x30, 0x38, 0xE8, 0xF8] then .opE8 else .opN8
      | _ => .op
  | .cb _ => .cbOp

/-- `match`. -/
def matchOf : OpcodeValue → Nat
  | .main op => op.toNat
  | .cb op2 => Config.cbPrefix.toNat * 256 + op2.toNat

/-- `mask`: "every mask is full". -/
def maskOf : OpcodeValue → Nat
  | .main _ => 0xFF
  | .cb _ => 0xFFFF

/-- The immediate bytes of a format, in memory order (R121). -/
def immediatePattern : Format → List PatternByte
  | .op => []
  | .opN8 => [.n]
  | .opE8 => [.e]
  | .opN16 => [.l, .h]
  | .cbOp => []

/-- `encoding`. -/
def encodingOf (v : OpcodeValue) : List PatternByte :=
  match v with
  | .main op => .fixed op :: immediatePattern (formatOf v)
  | .cb op2 => [.fixed Config.cbPrefix, .fixed op2]

/-- The numbers of the fields y, z and p (R122). -/
def yNat (op : Byte) : Nat := octNat (fieldY op)
def zNat (op : Byte) : Nat := octNat (fieldZ op)
def pNat (op : Byte) : Nat := op.toNat / 16 % 4

/-- `fields` of the main table, by the fields of the opcode (R131). -/
def mainFields (op : Byte) : List (FieldName × Nat) :=
  let y := yNat op
  let z := zNat op
  let p := pNat op
  match fieldX op, fieldZ op with
  | .q0, .o0 => if 4 ≤ y then [(.cc, y - 4)] else []
  | .q0, .o1 => [(.r16, p)]
  | .q0, .o2 => []
  | .q0, .o3 => [(.r16, p)]
  | .q0, .o4 => if y = 6 then [] else [(.r8, y)]
  | .q0, .o5 => if y = 6 then [] else [(.r8, y)]
  | .q0, .o6 => if y = 6 then [] else [(.dstR8, y)]
  | .q0, .o7 => []
  | .q1, _ => (if y = 6 then [] else [(.dstR8, y)]) ++ (if z = 6 then [] else [(.srcR8, z)])
  | .q2, _ => (.alu, y) :: (if z = 6 then [] else [(.srcR8, z)])
  | .q3, .o0 => if y < 4 then [(.cc, y)] else []
  | .q3, .o1 => if fieldQ op then [] else [(.r16stk, p)]
  | .q3, .o2 => if y < 4 then [(.cc, y)] else []
  | .q3, .o3 => []
  | .q3, .o4 => if y < 4 then [(.cc, y)] else []
  | .q3, .o5 => if fieldQ op then [] else [(.r16stk, p)]
  | .q3, .o6 => [(.alu, y)]
  | .q3, .o7 => [(.t, y)]

/-- `fields`: in the CB table r8 = 6, the byte at HL, is listed like the registers. -/
def fieldsOf : OpcodeValue → List (FieldName × Nat)
  | .main op => mainFields op
  | .cb op2 => [(if fieldX op2 = .q0 then .rot else .b, yNat op2), (.r8, zNat op2)]

/-- `rule` of the main table, by the fields of the opcode (R131). -/
def mainRule (op : Byte) : Nat :=
  let y := yNat op
  let p := pNat op
  match fieldX op, fieldZ op with
  | .q0, .o0 => [321, 182, 323, 304].getD y 305
  | .q0, .o1 => if fieldQ op then 241 else 181
  | .q0, .o2 => [158, 156, 159, 157, 164, 162, 165].getD y 163
  | .q0, .o3 => if fieldQ op then 243 else 242
  | .q0, .o4 => if y = 6 then 226 else 225
  | .q0, .o5 => if y = 6 then 228 else 227
  | .q0, .o6 => if y = 6 then 155 else 152
  | .q0, .o7 => [251, 253, 252, 254, 255, 256, 257].getD y 258
  | .q1, .o6 => if y = 6 then 322 else 153
  | .q1, _ => if y = 6 then 154 else 151
  | .q2, .o6 => 202 + 3 * y
  | .q2, _ => 201 + 3 * y
  | .q3, .o0 => [309, 309, 309, 309, 167, 244, 166].getD y 184
  | .q3, .o1 => if fieldQ op then [308, 310, 303].getD p 183 else if p = 3 then 187 else 186
  | .q3, .o2 => [302, 302, 302, 302, 169, 161, 168].getD y 160
  | .q3, .o3 => [301, 326, 330, 330, 330, 330, 324].getD y 325
  | .q3, .o4 => if y < 4 then 307 else 330
  | .q3, .o5 => if fieldQ op then (if p = 0 then 306 else 330) else 185
  | .q3, .o6 => 203 + 3 * y
  | .q3, .o7 => 312

/-- `rule`: in the CB table the rule of the register form is followed by that of the (HL) form (45_cb.md). -/
def ruleOf : OpcodeValue → Nat
  | .main op => mainRule op
  | .cb op2 =>
    let first := match fieldX op2 with
      | .q0 => 271 + 2 * yNat op2
      | .q1 => 287
      | .q2 => 289
      | .q3 => 291
    if fieldZ op2 = .o6 then first + 1 else first

/-- The part of the source that `src` names for the rows of a rule. -/
def sourceOfRule (rule : Nat) : String :=
  if rule ∈ [321, 323, 242, 243] then "the source §3 Instruction descriptor"
  else if rule = 324 then "the source §3 Interrupt state"
  else if rule = 325 then "the source §3 Interrupt state; §4.1 Fetch/decode"
  else if rule = 322 ∨ rule = 326 then "the source §4.1 Fetch/decode"
  else if rule = 330 then "the source §4.1 Error/edge handling; §7"
  else if 301 ≤ rule ∧ rule ≤ 312 then "the source §4.1 RST/CALL/JP/JR/RET(I)"
  else if rule = 185 ∨ rule = 186 then "the source §4.1 Stack discipline"
  else if rule = 187 then "the source §4.1 Stack discipline; §3"
  else if 225 ≤ rule ∧ rule ≤ 228 then "the source §4.1 Flag semantics; §8"
  else if rule = 152 then "the source §4.1 Operand resolution; §8"
  else if rule < 184 then "the source §4.1 Operand resolution"
  else "the source §4.1 Flag semantics"

/-- What `src` says of the rest: which values come from general knowledge. The source names three opcode values, 0x04, 0x3C and
0x3E. -/
def remainderOf (v : OpcodeValue) : String :=
  if v = .main Config.cbPrefix then "; byte value from general knowledge, not in source (D45)"
  else if ruleOf v = 330 then "; list of unassigned opcodes from general knowledge, not in source (D7, D20)"
  else if v ∈ [.main 0x04, .main 0x3C, .main 0x3E] then
    "; opcode value named in §8 TESTABLE PROPERTIES; base cycle count from general knowledge, not in source (92_eei_decisions.md D19)"
  else "; opcode value and cycle count from general knowledge, not in source (D19, D20)"

/-! ## The rows and the table -/

/-- The row of an opcode value. -/
def descriptorOf (v : OpcodeValue) : Descriptor :=
  let i := rowInstr v
  { mnemonic := mnemonicOf i
    format := formatOf v
    matchValue := matchOf v
    mask := maskOf v
    encoding := encodingOf v
    length := if i.wellFormed then some (instrLength i) else none
    cycles := if i.wellFormed = false ∨ baseCycles i = 0 then none else some (baseCycles i)
    cyclesTaken := (takenExtra i).map (baseCycles i + ·)
    fields := fieldsOf v
    rule := ruleOf v
    src := sourceOfRule (ruleOf v) ++ remainderOf v }

/-- The keys in the table's order: 0x00 to 0xFF, then 0xCB00 to 0xCBFF (R139). -/
def opcodeValues : List OpcodeValue :=
  (List.range 256).map (fun k => .main (BitVec.ofNat 8 k)) ++ (List.range 256).map (fun k => .cb (BitVec.ofNat 8 k))

/-- The 512 rows. -/
def opcodeTable : List Descriptor := opcodeValues.map descriptorOf

/-- The key of the instruction at two bytes of memory: after the prefix the second byte selects. -/
def opcodeValueAt (b0 b1 : Byte) : OpcodeValue := if b0 = Config.cbPrefix then .cb b1 else .main b0

end Sys2Proof
end

