-- ==== Sys2Proof/Machine/HostActions.lean ====
section
/-! DEFINITION. What the host does between ticks (70_reset_and_hazards.md R530, R531; 63_cartridge_mbc.md R470 to R473, R510). These
are functions beside the step, which has no input (log entry 21). -/

namespace Sys2Proof.Machine

/-! ## Load -/

/-- The host's image: a byte array. -/
structure Image where
  len : Nat
  bytes : Memory
  deriving DecidableEq, Repr

/-- An image from its bytes. -/
def Image.ofBytes (bs : List Byte) : Image := ⟨bs.length, Memory.ofBytes 0 bs⟩

/-- What a cartridge-type byte stands for: the variant at its reset values, battery, timer (R472). -/
structure CartType where
  mbc : Mbc
  battery : Bool
  timer : Bool
  deriving DecidableEq, Repr

/-- The table of R472; any other type is a load failure. -/
def cartTypeOf (type : Byte) : Option CartType :=
  match type.toNat with
  | 0x00 => some ⟨.mbc0, false, false⟩
  | 0x08 => some ⟨.mbc0, false, false⟩
  | 0x09 => some ⟨.mbc0, true, false⟩
  | 0x01 => some ⟨.mbc1 Mbc1.reset, false, false⟩
  | 0x02 => some ⟨.mbc1 Mbc1.reset, false, false⟩
  | 0x03 => some ⟨.mbc1 Mbc1.reset, true, false⟩
  | 0x05 => some ⟨.mbc2 Mbc2.reset, false, false⟩
  | 0x06 => some ⟨.mbc2 Mbc2.reset, true, false⟩
  | 0x0F => some ⟨.mbc3 Mbc3.reset, true, true⟩
  | 0x10 => some ⟨.mbc3 Mbc3.reset, true, true⟩
  | 0x11 => some ⟨.mbc3 Mbc3.reset, false, false⟩
  | 0x12 => some ⟨.mbc3 Mbc3.reset, false, false⟩
  | 0x13 => some ⟨.mbc3 Mbc3.reset, true, false⟩
  | _ => none

/-- The save image's bytes from index `k` on stored into `cram`, as far as both reach; masked to 4 bits for MBC2 (R473). -/
def restoreFrom (k : Nat) (save : List Byte) (cart : Cart) : Cart :=
  match save with
  | [] => cart
  | v :: rest =>
    if k < ramSize cart then
      restoreFrom (k + 1) rest { cart with cram := Store.write cart.cram k (cramWriteMask cart.mbc v) }
    else cart

/-- The save image restored into a battery cartridge (R473). -/
def restoreSave (save : Option (List Byte)) (cart : Cart) : Cart :=
  match save with
  | some bs => if cart.battery then restoreFrom 0 bs cart else cart
  | none => cart

/-- The cartridge that `Load` builds from an image of this type (R473). -/
def cartOf (image : Image) (ty : CartType) : Cart where
  rom := image.bytes
  romLen := image.len
  romCode := (Store.read image.bytes 0x0148).toNat
  ramCode := (Store.read image.bytes 0x0149).toNat
  battery := ty.battery
  timer := ty.timer
  cram := []
  mbc := ty.mbc

/-- `Load(image, save)` (R473): a machine right after reset, or the failure. -/
def load (image : Image) (save : Option (List Byte)) : Result :=
  if image.len < 0x0150 then .refused .loadMalformed
  else
    match cartTypeOf (Store.read image.bytes 0x0147) with
    | none => .refused (.loadUnsupportedType (Store.read image.bytes 0x0147))
    | some ty =>
      let cart := cartOf image ty
      if 8 < cart.romCode ∨ 5 < cart.ramCode then .refused .loadMalformed
      else .next (State.ofCart (restoreSave save cart))

/-! ## The other inputs -/

/-- `Reset()`, the explicit reset (R520, R511): every field at its reset value but the image and `cram`; the model's own records
of the host (log entries 5, 6, 18) stay. -/
def explicitReset (s : State) : State :=
  { State.ofCart { s.cart with mbc := Mbc.reset s.cart.mbc } with
    clockDraws := s.clockDraws
    persists := s.persists
    saved := s.saved }

/-- `Advance(n)`: n ticks (R530, 20_memory.md R103). -/
def advance : Nat → State → Result
  | 0, s => .next s
  | n + 1, s =>
    match tick s with
    | .next t => advance n t
    | .fault x => .fault x
    | .refused x => .refused x

/-- The eight buttons (R57). -/
inductive Button where
  | up | down | left | right | a | b | start | select
  deriving DecidableEq, Repr

/-- Is a button pressed? -/
def isPressed (button : Button) (k : Buttons) : Bool :=
  match button with
  | .up => k.up
  | .down => k.down
  | .left => k.left
  | .right => k.right
  | .a => k.a
  | .b => k.b
  | .start => k.start
  | .select => k.select

/-- The buttons with one set. -/
def withButton (button : Button) (pressed : Bool) (k : Buttons) : Buttons :=
  match button with
  | .up => { k with up := pressed }
  | .down => { k with down := pressed }
  | .left => { k with left := pressed }
  | .right => { k with right := pressed }
  | .a => { k with a := pressed }
  | .b => { k with b := pressed }
  | .start => { k with start := pressed }
  | .select => { k with select := pressed }

/-- `SetButton(b, pressed)`: any change requests the Joypad interrupt (61_timer_dma_io.md R402). -/
def pressButton (button : Button) (pressed : Bool) (s : State) : State :=
  if isPressed button s.buttons = pressed then s
  else request .joypad true { s with buttons := withButton button pressed s.buttons }

/-- `Discard()`: one last `Persist()` for a battery cartridge (R510). -/
def discard (s : State) : State :=
  if s.cart.battery then { s with persists := s.persists + 1, saved := some s.cart.cram } else s

/-! ## Placing an instruction (log entry 12) -/

/-- The bytes `bs` stored into the image from offset `a` on. -/
def patchBytes (a : Nat) (bs : List Byte) (rom : Memory) : Memory :=
  match bs with
  | [] => rom
  | v :: rest => patchBytes (a + 1) rest (Store.write rom a v)

/-- The cartridge with these bytes in its image, the image long enough to hold them. -/
def patchRom (a : Nat) (bs : List Byte) (k : Cart) : Cart :=
  { k with rom := patchBytes a bs k.rom, romLen := max k.romLen (a + bs.length) }

/-- Where `State.withFetchWord` puts an instruction: at PC where PC lies in the fixed ROM bank, else at the entry point 0x0100. -/
def fetchPlace (s : State) : Word := if s.pc.toNat ≤ 0x3FFD then s.pc else 0x0100

/-- The state in which the very next tick fetches and runs the instruction with these bytes: they are in the image at PC, the tick
is one of the CPU's, nothing is in flight, nothing stops the CPU, no interrupt is serviced first. -/
def readyToFetch (bs : List Byte) (s : State) : State :=
  { s with
    pc := fetchPlace s
    cart := patchRom (fetchPlace s).toNat bs s.cart
    ticks := s.ticks / Config.ticksPerMCycle * Config.ticksPerMCycle + (Config.ticksPerMCycle - 1)
    cyclesLeft := 0
    fault := none
    halted := false
    ime := s.ime && decide (pending s = 0) }

/-! ## The read surface (R531): pure functions of the state -/

/-- (a) The register snapshot. -/
structure Snapshot where
  af : Word
  bc : Word
  de : Word
  hl : Word
  pc : Word
  sp : Word
  z : Bool
  n : Bool
  hf : Bool
  cf : Bool
  ime : Bool
  halted : Bool
  fault : Option Fault
  deriving DecidableEq, Repr

/-- (a) The register snapshot of a state. -/
def snapshot (s : State) : Snapshot where
  af := regAF s
  bc := regBC s
  de := regDE s
  hl := regHL s
  pc := s.pc
  sp := s.sp
  z := flagZ s
  n := flagN s
  hf := flagH s
  cf := flagC s
  ime := s.ime
  halted := s.halted
  fault := s.fault

/-- (b) Memory passthrough: `BusRead(a)`, with the DMA mask as for the CPU. -/
def inspect (a : Word) (s : State) : Byte := busRead a s

/-- (c) The lookup by opcode value: every row of `opcodeTable`, the prefix's own row among them, is `descriptorOf` of its key. This
one is for disassembly: the row of the instruction that two bytes of memory begin. -/
def descriptorAt (b0 b1 : Byte) : Descriptor := descriptorOf (opcodeValueAt b0 b1)

/-- (d) The pixel the host sees at row `y`, column `x`: `ShadeToRGBA(front[y][x])`. -/
def pixel (y x : Nat) (s : State) : BitVec 32 := Config.shadeToRGBA (Store.read s.ppu.front (160 * y + x))

end Sys2Proof.Machine
end

