-- ==== Sys2Proof/Machine/Step.lean ====
section
/-! DEFINITION. The step: one `Tick()` (00_scope.md R4; log entry 1); and placing an instruction where the next step fetches it. -/

namespace Sys2Proof.Machine

/-- One step of the machine is one tick of its master clock (20_memory.md R100). -/
def step (s : State) : Host.Outcome State Fault Refusal := tick s

/-- `s` with the instruction whose table word is `w` placed so that the very next step fetches and runs it (log entry 12). -/
def State.withFetchWord (s : State) (nbits w : Nat) : State := readyToFetch (tableBytes nbits w) s

end Sys2Proof.Machine
end

