-- ==== Sys2Proof/Safety.lean ====
section
/-! DEFINITION. What a good state is: the invariant that every step keeps, and the PPU's timing invariant. -/

namespace Sys2Proof.Machine

/-! ## The invariant -/

/-- An array of `n` cells in canonical form. -/
def ArrayOk {w : Nat} (n : Nat) (m : Store w) : Prop := Store.wf m = true ∧ Store.below n m = true

/-- The CPU: F's low nibble is 0 (10_state.md R23), at most five M-cycles remain of the longest instruction's six (R30), and the
fault is one of the eleven unassigned opcodes' (R31, 47_system.md R330). -/
structure CpuOk (s : State) : Prop where
  flags : s.f &&& 0x0F = 0
  cycles : s.cyclesLeft ≤ 5
  fault : ∀ op, s.fault = some (.illegalOpcode op) → ∃ u, op = unassignedOp u

/-- The DMA engine: an active transfer has bytes left to copy (10_state.md R45, 61_timer_dma_io.md R391). -/
structure DmaOk (d : Dma) : Prop where
  offset : d.offset ≤ 160
  left : d.active = true → d.offset < 160

/-- The PPU's modes that draw a visible line. -/
def visible (m : PpuMode) : Prop := m ≠ .vblank

/-- The PPU: arrays, and the ranges of 10_state.md R48, R51; the host's frame equals the framebuffer while nothing is drawn
(62_ppu.md R446). `window_line` may be 144 in VBLANK (log entry 15). -/
structure PpuOk (p : Ppu) : Prop where
  vram : ArrayOk 8192 p.vram
  oam : ArrayOk 160 p.oam
  framebuffer : ArrayOk 23040 p.framebuffer
  front : ArrayOk 23040 p.front
  height : p.spriteHeight = 8 ∨ p.spriteHeight = 16
  candidates : p.candidates.length ≤ 10
  fifo : p.fifo.length ≤ 16
  discard : p.discard ≤ 7
  lx : p.lx ≤ 160
  drawing : p.mode = .drawPixels → p.lx < 160
  lyVisible : visible p.mode → p.ly.toNat ≤ 143
  lyVBlank : p.mode = .vblank → 144 ≤ p.ly.toNat ∧ p.ly.toNat ≤ 153
  windowVisible : visible p.mode → p.windowLine ≤ p.ly.toNat
  windowVBlank : p.mode = .vblank → p.windowLine ≤ 144
  settled : p.mode = .vblank ∨ (p.mode = .oamScan ∧ p.ly = 0) → p.front = p.framebuffer

/-- The MBC: no bank register selects bank 0 (63_cartridge_mbc.md R474). -/
def MbcOk : Mbc → Prop
  | .mbc0 => True
  | .mbc1 r => r.bank5 ≠ 0
  | .mbc2 r => r.bank4 ≠ 0
  | .mbc3 r => r.bank7 ≠ 0

/-- Every cell of MBC2's RAM has a high nibble of 0 (63_cartridge_mbc.md R490). -/
def NibblesOk (k : Cart) : Prop :=
  match k.mbc with
  | .mbc2 _ => ∀ c ∈ k.cram, c.2 &&& 0xF0 = 0
  | _ => True

/-- The cartridge. -/
structure CartOk (k : Cart) : Prop where
  rom : ArrayOk k.romLen k.rom
  cram : ArrayOk (ramSize k) k.cram
  mbc : MbcOk k.mbc
  nibbles : NibblesOk k

/-- The last `Persist()` event of a battery cartridge carried the RAM as it is (63_cartridge_mbc.md R510: "rewritten fully on every
RAM-enabled write"). -/
def SavedOk (s : State) : Prop := s.cart.battery = true → ∀ x, s.saved = some x → x = s.cart.cram

/-- The invariant of the machine. -/
structure Inv (s : State) : Prop where
  cpu : CpuOk s
  dma : DmaOk s.dma
  wram : ArrayOk 8192 s.wram
  hram : ArrayOk 127 s.hram
  ppu : PpuOk s.ppu
  cart : CartOk s.cart
  saved : SavedOk s

/-! ## The PPU's timing -/

/-- Dots until the fetcher reaches its next push, counted from the dot after `line_dot`: it acts on odd dots (62_ppu.md R421,
R436). -/
def dotsToPush (p : Ppu) : Nat :=
  let k := match p.fetchPhase with
    | .tile => 4
    | .low => 3
    | .high => 2
    | .push => 1
  if p.lineDot % 2 = 0 then 2 * k - 1 else 2 * k

/-- A bound on the dots that DRAWPIXELS can still last: the pixels left, those to drop, the wait for the next push that the FIFO
does not cover, and the cost of a window start (62_ppu.md R450). -/
def drawBudget (p : Ppu) : Nat :=
  (160 - p.lx) + p.discard + (dotsToPush p - 1 - p.fifo.length) + (if p.winActive then 0 else 15)

/-- The PPU is on time: a line never runs past its 456 dots, drawing always ends by dot 268, so that HBLANK always exists, and LY
is where the mode says (62_ppu.md R422, R426, R450). -/
def PpuOnTime (p : Ppu) : Prop :=
  match p.mode with
  | .oamScan => p.lineDot < 80 ∧ p.ly.toNat ≤ 143
  | .drawPixels => 80 ≤ p.lineDot ∧ p.lx < 160 ∧ p.lineDot + drawBudget p ≤ 268 ∧ p.ly.toNat ≤ 143
  | .hblank => p.lineDot < 456 ∧ p.ly.toNat ≤ 143
  | .vblank => p.lineDot < 456 ∧ 144 ≤ p.ly.toNat ∧ p.ly.toNat ≤ 153

/-- The dots of one frame: 154 lines of 456 (62_ppu.md R426). -/
def frameDots : Nat := 154 * 456

/-- Time as the PPU counts it: completed frames, and the dots since the last entry into VBLANK at line 144. -/
def frameClock (p : Ppu) : Nat :=
  frameDots * p.frameCount + (456 * p.ly.toNat + p.lineDot + 10 * 456) % frameDots

/-! ## The words of the claims: selector numbers (30_encoding.md R123) -/

/-- The number of a register in the `r8` table. -/
def r8Index : R8 → Nat
  | .b => 0 | .c => 1 | .d => 2 | .e => 3 | .h => 4 | .l => 5 | .a => 7

/-- The number of a pair in the `r16` table. -/
def r16Index : R16 → Nat
  | .bc => 0 | .de => 1 | .hl => 2 | .sp => 3

/-- The number of a pair in the `r16stk` table. -/
def r16StkIndex : R16Stk → Nat
  | .bc => 0 | .de => 1 | .hl => 2 | .af => 3

/-- The number of a condition in the `cc` table. -/
def condIndex : Cond → Nat
  | .nz => 0 | .z => 1 | .nc => 2 | .c => 3

/-- The number of an operation in the `alu` table. -/
def aluIndex : AluOp → Nat
  | .add => 0 | .adc => 1 | .sub => 2 | .sbc => 3 | .and => 4 | .xor => 5 | .or => 6 | .cp => 7

/-- The number of an operation in the `rot` table. -/
def rotIndex : RotOp → Nat
  | .rlc => 0 | .rrc => 1 | .rl => 2 | .rr => 3 | .sla => 4 | .sra => 5 | .swap => 6 | .srl => 7

/-! ## The words of the claims: results -/

/-- What a condition asks of F (46_control.md R300 (2)). -/
def CondMet (k : Cond) (s : State) : Prop :=
  match k with
  | .nz => s.f.getLsbD 7 = false
  | .z => s.f.getLsbD 7 = true
  | .nc => s.f.getLsbD 4 = false
  | .c => s.f.getLsbD 4 = true

/-- The table of 45_cb.md R270 on naturals: the result of a rotate or shift of `v`, and the bit shifted out. -/
def shiftTable (op : RotOp) (v cin : Nat) : Nat × Bool :=
  match op with
  | .rlc => (2 * v % 256 + v / 128, v / 128 == 1)
  | .rrc => (v / 2 + 128 * (v % 2), v % 2 == 1)
  | .rl => (2 * v % 256 + cin, v / 128 == 1)
  | .rr => (v / 2 + 128 * cin, v % 2 == 1)
  | .sla => (2 * v % 256, v / 128 == 1)
  | .sra => (v / 2 + 128 * (v / 128), v % 2 == 1)
  | .swap => (16 * v % 256 + v / 16, false)
  | .srl => (v / 2, v % 2 == 1)

/-- Two decimal digits as a byte. -/
def bcd (n : Nat) : Byte := BitVec.ofNat 8 (16 * (n / 10) + n % 10)

/-- The four flags of a state, and the low nibble of F (10_state.md R23). -/
def FlagsAre (z n h c : Bool) (t : State) : Prop :=
  t.f.getLsbD 7 = z ∧ t.f.getLsbD 6 = n ∧ t.f.getLsbD 5 = h ∧ t.f.getLsbD 4 = c ∧ t.f &&& 0x0F = 0

/-! ## The words of the claims: frames -/

/-- Every 8-bit register but those named keeps its value. -/
def SameRegisters (except : List R8) (s t : State) : Prop := ∀ r, r ∉ except → getR8 r t = getR8 r s

/-- PC is past an instruction of `len` bytes, and its M-cycles are to pass. -/
def Ends (len cycles : Nat) (s t : State) : Prop := t.pc = s.pc + BitVec.ofNat 16 len ∧ t.cyclesLeft = cycles

/-- Nothing but the register file, PC and the count of M-cycles differs; every byte of memory reads as before. -/
def OnlyRegisters (s t : State) : Prop :=
  { t with a := s.a, f := s.f, b := s.b, c := s.c, d := s.d, e := s.e, h := s.h, l := s.l, sp := s.sp, pc := s.pc, cyclesLeft := s.cyclesLeft } = s ∧
  ∀ x, busRead x t = busRead x s

/-- Can a write at `a` change what a read at `x` gives? The byte itself; its other name where WRAM is mirrored (20_memory.md R77);
a bank register's window (63_cartridge_mbc.md R474), the cells of cartridge RAM, which may have several names (R490); and, for the
DMA register, what the mask hides (61_timer_dma_io.md R393). -/
def storeReach (a x : Word) : Bool :=
  match regionOf a with
  | .cartRom => regionOf x == .cartRom || regionOf x == .cartRam
  | .vram => x == a
  | .cartRam => regionOf x == .cartRam
  | .wram => (regionOf x == .wram || regionOf x == .echo) && a.toNat % 8192 == x.toNat % 8192
  | .echo => (regionOf x == .wram || regionOf x == .echo) && a.toNat % 8192 == x.toNat % 8192
  | .oam => x == a
  | .unusable => false
  | .io => x == a || (a == 0xFF46 && (regionOf x == .vram || regionOf x == .oam))
  | .hram => x == a
  | .ie => x == a

/-- One byte was stored through the bus, and nothing else differs but the register file, PC and the count; every byte that the
write does not reach reads as before. -/
def Stored (addr : Word) (v : Byte) (s t : State) : Prop :=
  { t with a := s.a, f := s.f, b := s.b, c := s.c, d := s.d, e := s.e, h := s.h, l := s.l, sp := s.sp, pc := s.pc, cyclesLeft := s.cyclesLeft } = busWrite addr v s ∧
  ∀ x, storeReach addr x = false → busRead x t = busRead x s

/-- Two bytes were stored through the bus, `v` at `addr` first and then `v'` at `addr'`. -/
def StoredTwo (addr : Word) (v : Byte) (addr' : Word) (v' : Byte) (s t : State) : Prop :=
  { t with a := s.a, f := s.f, b := s.b, c := s.c, d := s.d, e := s.e, h := s.h, l := s.l, sp := s.sp, pc := s.pc, cyclesLeft := s.cyclesLeft } =
    busWrite addr' v' (busWrite addr v s) ∧
  ∀ x, storeReach addr x = false → storeReach addr' x = false → busRead x t = busRead x s

/-- A byte of plain storage: what is written there is read back, until another write reaches it. -/
def plainStorage (s : State) (a : Word) : Bool :=
  match regionOf a with
  | .wram => true
  | .echo => true
  | .hram => true
  | .ie => true
  | .vram => !s.dma.active
  | .oam => !s.dma.active
  | .cartRam => s.cart.mbc == .mbc0
  | .cartRom => false
  | .unusable => false
  | .io => false

/-! ## The words of the claims: the cartridge's windows (63_cartridge_mbc.md) -/

/-- A read at `x` gives the image's byte at `off`, or 0xFF beyond the declared size or the image (R471). -/
def ReadsImage (x : Word) (off : Nat) (s : State) : Prop :=
  busRead x s = if off < 32768 * 2 ^ s.cart.romCode ∧ off < s.cart.romLen then Store.read s.cart.rom off else 0xFF

/-- The bank of 16 KiB that 0x4000 to 0x7FFF shows (R475, R481, R490, R500). -/
def romBank : Mbc → Nat
  | .mbc0 => 1
  | .mbc1 r => (if r.mode = 0 then 32 * r.sec.toNat else 0) + r.bank5.toNat
  | .mbc2 r => r.bank4.toNat
  | .mbc3 r => r.bank7.toNat

/-- `v` stored into cell `off` of cartridge RAM, with `Persist()` on a battery cartridge (R510), and nothing else. -/
def storedCell (off : Nat) (v : Byte) (s : State) : State :=
  { s with
    cart := { s.cart with cram := Store.write s.cart.cram off v }
    persists := if s.cart.battery then s.persists + 1 else s.persists
    saved := if s.cart.battery then some (Store.write s.cart.cram off v) else s.saved }

/-- `x` names cell `off` of cartridge RAM. -/
def WindowCell (x : Word) (off : Nat) (s : State) : Prop :=
  busRead x s = Store.read s.cart.cram off ∧ ∀ v, busWrite x v s = storedCell off v s

/-- `x` names the four-bit cell `off` of MBC2 (R490). -/
def WindowNibble (x : Word) (off : Nat) (s : State) : Prop :=
  busRead x s = 0xF0 ||| Store.read s.cart.cram off ∧ ∀ v, busWrite x v s = storedCell off (v &&& 0x0F) s

/-- `x` names nothing: 0xFF is read, a write is dropped (R482, R490, R501). -/
def WindowEmpty (x : Word) (s : State) : Prop := busRead x s = 0xFF ∧ ∀ v, busWrite x v s = s

/-- `x` names a clock register that holds `g`; writing `v` leaves the MBC's registers at `put v`, and is not persisted (R501). -/
def WindowClock (x : Word) (g : Byte) (put : Byte → Mbc3) (s : State) : Prop :=
  busRead x s = g ∧ ∀ v, busWrite x v s = { s with cart := { s.cart with mbc := .mbc3 (put v) } }

/-! ## The words of the claims: loads, stores, control -/

/-- An 8-bit load into register `dst`: from every state the instruction completes, `dst` holds `v`, and nothing else changes. -/
def LoadsTo (i : Instr) (dst : R8) (v : State → Byte) (len cycles : Nat) : Prop :=
  ∀ s, ∃ t, exec i s = .next t ∧ getR8 dst t = v s ∧
    SameRegisters [dst] s t ∧ t.f = s.f ∧ t.sp = s.sp ∧ Ends len cycles s t ∧ OnlyRegisters s t

/-- An 8-bit store of `v` at `addr`: from every state the instruction completes, and no register or flag changes. -/
def StoresByte (i : Instr) (addr : State → Word) (v : State → Byte) (len cycles : Nat) : Prop :=
  ∀ s, ∃ t, exec i s = .next t ∧ Stored (addr s) (v s) s t ∧
    SameRegisters [] s t ∧ t.f = s.f ∧ t.sp = s.sp ∧ Ends len cycles s t

/-- The three forms of an operation on A: register, byte at HL, immediate, with the operand's value, the length and the
M-cycles. -/
def AluForms (op : AluOp) (P : Instr → (State → Byte) → Nat → Nat → Prop) : Prop :=
  (∀ r, P (Fam.aluReg op r) (getR8 r) 1 1) ∧ P (Fam.aluInd op) (fun s => busRead (regHL s) s) 1 2 ∧
  ∀ n, P (Fam.aluImm op n) (fun _ => n) 2 2

/-- The encodings of those forms (30_encoding.md R131). -/
def AluEncodings (op : AluOp) : Prop :=
  (∀ r, encode (Fam.aluReg op r) = [BitVec.ofNat 8 (0x80 + 8 * aluIndex op + r8Index r)]) ∧
  encode (Fam.aluInd op) = [BitVec.ofNat 8 (0x86 + 8 * aluIndex op)] ∧
  ∀ n, encode (Fam.aluImm op n) = [BitVec.ofNat 8 (0xC6 + 8 * aluIndex op), n]

/-- What an operation on A leaves: A and F may change, nothing else does. -/
def AluFrame (len cycles : Nat) (s t : State) : Prop :=
  SameRegisters [.a] s t ∧ t.sp = s.sp ∧ Ends len cycles s t ∧ OnlyRegisters s t

/-- A transfer of control to `target`: no register, no flag, no memory changes. -/
def JumpsTo (target : Word) (cycles : Nat) (s t : State) : Prop :=
  t.pc = target ∧ t.cyclesLeft = cycles ∧ SameRegisters [] s t ∧ t.f = s.f ∧ t.sp = s.sp ∧ OnlyRegisters s t

/-- A call of `target` that pushes `back`: high byte at SP − 1, then low byte at SP − 2 (00_scope.md R11). -/
def CallsTo (target back : Word) (cycles : Nat) (s t : State) : Prop :=
  t.pc = target ∧ t.cyclesLeft = cycles ∧ SameRegisters [] s t ∧ t.f = s.f ∧ t.sp = s.sp - 2 ∧
  StoredTwo (s.sp - 1) (hiByte back) (s.sp - 2) (loByte back) s t

/-- The two bytes at SP as a word, the low byte at SP (00_scope.md R11). -/
def stackTop (s : State) : Word := wordOf (busRead (s.sp + 1) s) (busRead s.sp s)

/-- The control state of the CPU but for what is named apart: the CPU's registers, flags and control bits agree. -/
structure SameCpuState (s t : State) : Prop where
  registers : SameRegisters [] s t
  f : t.f = s.f
  sp : t.sp = s.sp
  pc : t.pc = s.pc
  ime : t.ime = s.ime
  imeEnabling : t.imeEnabling = s.imeEnabling
  halted : t.halted = s.halted
  fault : t.fault = s.fault

end Sys2Proof.Machine
end

