-- ==== Sys2Proof/Certificates/Slice0/Obligations.lean ====
section
/-! DEFINITION. The statements for the provers. Each docstring says which rules of the spec the statement follows. -/

open Sys2Proof Sys2Proof.Machine

/-- O1. The values right after reset, with any cartridge (the spec's own decisions and presumed DMG values: log entry 4). From
70_reset_and_hazards.md (R520), 95_test_vectors.md (AGT1). -/
def Obligations.ResetValues : Prop :=
  ∀ cart : Cart, ∀ s, s = State.ofCart cart →
    (regAF s = 0x01B0 ∧ regBC s = 0x0013 ∧ regDE s = 0x00D8 ∧ regHL s = 0x014D ∧ s.sp = 0xFFFE ∧ s.pc = 0x0100) ∧
    (s.ime = false ∧ s.imeEnabling = false ∧ s.halted = false ∧ s.cyclesLeft = 0 ∧ s.fault = none ∧ s.ticks = 0) ∧
    (s.buttons = Buttons.released ∧ s.dma.active = false ∧ s.timer.div16 = 0xABCC) ∧
    (∀ p ∈ ([(0xFF00, 0xCF), (0xFF01, 0x00), (0xFF02, 0x7E), (0xFF04, 0xAB), (0xFF05, 0x00), (0xFF06, 0x00), (0xFF07, 0xF8),
        (0xFF0F, 0xE1), (0xFF40, 0x91), (0xFF41, 0x82), (0xFF42, 0x00), (0xFF43, 0x00), (0xFF44, 0x00), (0xFF45, 0x00),
        (0xFF46, 0xFF), (0xFF47, 0xFC), (0xFF48, 0xFF), (0xFF49, 0xFF), (0xFF4A, 0x00), (0xFF4B, 0x00), (0xFFFF, 0x00),
        (0xFEA0, 0x00), (0xFEFF, 0x00), (0xFF03, 0xFF), (0xFF10, 0xFF), (0xFF7F, 0xFF)] : List (Word × Byte)),
      busRead p.1 s = p.2) ∧
    ∀ x : Word, (0x8000 ≤ x.toNat ∧ x.toNat < 0xA000) ∨ (0xC000 ≤ x.toNat ∧ x.toNat < 0xFF00) ∨
        (0xFF80 ≤ x.toNat ∧ x.toNat < 0xFFFF) → busRead x s = 0

/-- O2. The state after reset meets the invariant and the timing invariant (its blank cartridge: log entry 2; its presumed reset
values: log entry 4). From 10_state.md, 70_reset_and_hazards.md (R520). -/
def Obligations.InvariantHoldsAtReset : Prop :=
  Inv State.reset ∧ PpuOnTime State.reset.ppu

/-- O3. Every successful load builds a machine that meets both invariants, with the image as its ROM. From 63_cartridge_mbc.md
(R473, R510), 70_reset_and_hazards.md (R520). -/
def Obligations.LoadBuildsAGoodMachine : Prop :=
  ∀ (image : Image) (save : Option (List Byte)), ArrayOk image.len image.bytes →
    ∀ s, load image save = .next s → Inv s ∧ PpuOnTime s.ppu ∧ s.cart.rom = image.bytes ∧ s.cart.romLen = image.len

/-- O4. When a load fails and how, when it succeeds, and what an MBC0 machine reads (the bounds are the spec's decision D32).
From 63_cartridge_mbc.md (R472, R473, R475), 95_test_vectors.md (SRC8, AGT6). -/
def Obligations.LoadOutcomes : Prop :=
  ∀ (image : Image) (save : Option (List Byte)),
    let type := Store.read image.bytes 0x0147
    let codesOk := (Store.read image.bytes 0x0148).toNat ≤ 8 ∧ (Store.read image.bytes 0x0149).toNat ≤ 5
    let known := type ∈ ([0x00, 0x01, 0x02, 0x03, 0x05, 0x06, 0x08, 0x09, 0x0F, 0x10, 0x11, 0x12, 0x13] : List Byte)
    (image.len < 0x0150 → load image save = .refused .loadMalformed) ∧
    (0x0150 ≤ image.len → ¬ known → load image save = .refused (.loadUnsupportedType type)) ∧
    (0x0150 ≤ image.len → known → ¬ codesOk → load image save = .refused .loadMalformed) ∧
    (0x0150 ≤ image.len → known → codesOk → ∃ s, load image save = .next s ∧
      (type ∈ ([0x00, 0x08, 0x09] : List Byte) → save = none → ∀ x : Word,
        (x.toNat < 0x8000 → busRead x s = if x.toNat < image.len then Store.read image.bytes x.toNat else 0xFF) ∧
        (0xA000 ≤ x.toNat ∧ x.toNat < 0xC000 → busRead x s = 0)))

/-- O5. Decoding an encoded instruction gives it back, whatever bytes follow. From 30_encoding.md (R120, R121, R130, R136). -/
def Obligations.DecodeOfEncodeIsTheInstruction : Prop :=
  ∀ i : Instr, i.wellFormed = true → ∀ rest : List Byte, decodeBytes (encode i ++ rest) = .ok (i, rest)

/-- O6. Every three bytes decode to a well-formed instruction whose encoding is their beginning. From 30_encoding.md (R120,
R121, R132, R135). -/
def Obligations.EncodeOfDecodeIsTheBytes : Prop :=
  ∀ b0 b1 b2 : Byte, (decode b0 b1 b2).wellFormed = true ∧ (encode (decode b0 b1 b2)).length = lengthOf b0 ∧
    ∃ rest, encode (decode b0 b1 b2) ++ rest = [b0, b1, b2]

/-- O7. Words written out from the encoding tables decode to the instructions they stand for. From 30_encoding.md (R130, R136),
opcode_table.json. -/
def Obligations.WordsDecodeAsTheTablesSay : Prop :=
  decode 0x78 0 0 = .ld_A_B ∧ decode 0x3E 0x41 0 = .ld_A_n 0x41 ∧ decode 0x66 0 0 = .ld_H_iHL ∧ decode 0xE0 0x46 0 = .ldh_n_A 0x46 ∧
  decode 0x31 0x00 0xD0 = .ld_SP_nn 0xD000 ∧ decode 0x08 0x00 0xC1 = .ld_inn_SP 0xC100 ∧ decode 0xF5 0 0 = .push_AF ∧
  decode 0x8E 0 0 = .adc_A_iHL ∧ decode 0xDE 0x3A 0 = .sbc_A_n 0x3A ∧ decode 0x35 0 0 = .dec_iHL ∧ decode 0x39 0 0 = .add_HL_SP ∧
  decode 0x27 0 0 = .daa ∧ decode 0xCB 0x7C 0 = .bit_7_H ∧ decode 0xCB 0x37 0 = .swap_A ∧ decode 0xCB 0xC6 0 = .set_0_iHL ∧
  decode 0xCB 0xCB 0 = .set_1_E ∧ decode 0xC3 0x50 0x01 = .jp_nn 0x0150 ∧ decode 0x20 0xFC 0 = .jr_NZ_e 0xFC ∧
  decode 0xEF 0 0 = .rst_28H ∧ decode 0x76 0 0 = .halt ∧ decode 0x10 0x3C 0 = .stop 0x3C ∧ decode 0xED 0 0 = .illegal_ED

/-- O8. The prefix with a second byte does what that entry of the CB table does (log entry 9). From 47_system.md (R326),
45_cb.md (R270), 30_encoding.md (R135). -/
def Obligations.PrefixRunsTheCbInstruction : Prop :=
  ∀ (op2 : Byte) (s : State), (∀ b2, decode 0xCB op2 b2 = decodeCb op2) ∧
    ∃ t, exec (.prefix_CB op2) s = .next t ∧ exec (decodeCb op2) s = .next t

/-- O9. A step in which the CPU takes its next step runs the instruction that the bytes at PC decode to. From 60_exceptions.md
(R340), 20_memory.md (R100, R101). -/
def Obligations.StepRunsTheDecodedInstruction : Prop :=
  ∀ (s : State) (i : Instr) (rest : List Byte) (t : State),
    (s.ticks + 1) % 4 = 0 → s.fault = none → s.cyclesLeft = 0 → s.halted = false → (s.ime = false ∨ pending s = 0) →
    decodeBytes [busRead s.pc s, busRead (s.pc + 1) s, busRead (s.pc + 2) s] = .ok (i, rest) →
    exec i { s with ticks := s.ticks + 1, ime := s.ime || s.imeEnabling, imeEnabling := false } = .next t →
    step s = .next (devices { t with cyclesLeft := t.cyclesLeft - 1 })

/-- O10. Every step of every state answers a next state, one tick later. From 20_memory.md (R72, R73, R93, R100), 00_scope.md
(R13). -/
def Obligations.StepAlwaysAnswersNext : Prop :=
  ∀ s : State, ∃ t, step s = .next t ∧ t.ticks = s.ticks + 1

/-- O11. Every step keeps the invariant of the machine (window_line 144 in VBLANK: log entry 15; the saved image: log entry 6;
MBC2 cells as bytes: log entry 20). From 10_state.md (R23, R30, R31, R45, R48, R51), 62_ppu.md (R446), 63_cartridge_mbc.md
(R474, R490, R510). -/
def Obligations.StepKeepsTheInvariant : Prop :=
  ∀ s : State, Inv s → ∃ t, step s = .next t ∧ Inv t

/-- O12. Whatever the program does, the PPU stays on time and counts one dot a tick. From 62_ppu.md (R421, R422, R424, R426,
R436, R440, R443, R450). -/
def Obligations.PpuKeepsTime : Prop :=
  ∀ s : State, PpuOnTime s.ppu → ∃ t, step s = .next t ∧ PpuOnTime t.ppu ∧ frameClock t.ppu = frameClock s.ppu + 1

/-- O13. One scanline consumes exactly 456 dots, one full frame 154 scanlines. From 62_ppu.md (R426), 95_test_vectors.md (SRC6). -/
def Obligations.LineTakes456DotsAndFrame154Lines : Prop :=
  ∀ s : State, PpuOnTime s.ppu →
    (∃ t, advance 456 s = .next t ∧ t.ppu.lineDot = s.ppu.lineDot ∧ t.ppu.ly = if s.ppu.ly = 153 then 0 else s.ppu.ly + 1) ∧
    ∃ t, advance 70224 s = .next t ∧ t.ppu.lineDot = s.ppu.lineDot ∧ t.ppu.ly = s.ppu.ly ∧
      t.ppu.frameCount = s.ppu.frameCount + 1

/-- O14. No step writes the ROM image; a reset resets the bank and clock registers and keeps cartridge RAM (reset: the spec's
decisions D32, D36, D40). From 63_cartridge_mbc.md (R511), 10_state.md (R55, R56), 70_reset_and_hazards.md (R520). -/
def Obligations.NothingWritesRom : Prop :=
  (∀ s : State, ∃ t, step s = .next t ∧ t.cart.rom = s.cart.rom ∧ t.cart.romLen = s.cart.romLen) ∧
  ∀ s : State, (explicitReset s).cart = { s.cart with mbc :=
    match s.cart.mbc with
    | .mbc0 => .mbc0
    | .mbc1 _ => .mbc1 ⟨false, 1, 0, 0⟩
    | .mbc2 _ => .mbc2 ⟨false, 1⟩
    | .mbc3 _ => .mbc3 ⟨false, 1, 0, 0xFF, ⟨0, 0, 0, 0, 0⟩⟩ }

/-- O15. Outside a CPU step nothing of the CPU changes: in the other ticks, while an instruction's count runs down, and for ever
after a fault. From 20_memory.md (R100, R101), 47_system.md (R330), 60_exceptions.md (R368). -/
def Obligations.OnlyCpuStepsChangeTheCpu : Prop :=
  ∀ s : State, s.fault ≠ none ∨ s.cyclesLeft ≠ 0 ∨ (s.ticks + 1) % 4 ≠ 0 →
    ∃ t, step s = .next t ∧ SameCpuState s t ∧ t.wram = s.wram ∧ t.hram = s.hram ∧ t.ie = s.ie ∧ t.cart = s.cart

/-- O16. Every tick runs timer, DMA, PPU in this order after the CPU; they write no CPU register, no memory but OAM and
framebuffer, and only set IF bits 0 to 2. From 20_memory.md (R100, R101), 62_ppu.md (R410), 60_exceptions.md (R345),
61_timer_dma_io.md (R380, R391). -/
def Obligations.DevicesLeaveTheCpuAlone : Prop :=
  (∀ s c : State, c = { s with ticks := s.ticks + 1 } →
    ((s.ticks + 1) % 4 ≠ 0 ∨ s.fault ≠ none → step s = .next (devices c)) ∧
    ((s.ticks + 1) % 4 = 0 → s.fault = none → s.cyclesLeft ≠ 0 → step s = .next (devices { c with cyclesLeft := s.cyclesLeft - 1 })) ∧
    ((s.ticks + 1) % 4 = 0 → s.fault = none → s.cyclesLeft = 0 → ∀ u, cpuStep c = .next u →
      step s = .next (devices { u with cyclesLeft := u.cyclesLeft - 1 }))) ∧
  (∀ s t u v : State, t = devices s → u = timerPart s → v = dmaPart u →
    t.timer = u.timer ∧ t.dma = v.dma ∧ t.ppu = (ppuTick v.ppu).1 ∧ t.ppu.oam = v.ppu.oam ∧
    t.ifReg.getLsbD 2 = u.ifReg.getLsbD 2 ∧ t.ifReg.getLsbD 0 = (s.ifReg.getLsbD 0 || (ppuTick v.ppu).2.vblank) ∧
    t.ifReg.getLsbD 1 = (s.ifReg.getLsbD 1 || (ppuTick v.ppu).2.lcdStat)) ∧
  ∀ s t : State, t = devices s →
    SameCpuState s t ∧ t.cyclesLeft = s.cyclesLeft ∧ t.ticks = s.ticks ∧ t.ie = s.ie ∧ t.wram = s.wram ∧ t.hram = s.hram ∧
    t.cart = s.cart ∧ t.joypSelect = s.joypSelect ∧ t.sb = s.sb ∧ t.sc = s.sc ∧ t.timer.tma = s.timer.tma ∧ t.timer.tac = s.timer.tac ∧
    t.ppu.vram = s.ppu.vram ∧ t.ppu.lcdc = s.ppu.lcdc ∧ t.ppu.statEnables = s.ppu.statEnables ∧ t.ppu.scy = s.ppu.scy ∧
    t.ppu.scx = s.ppu.scx ∧ t.ppu.lyc = s.ppu.lyc ∧ t.ppu.bgp = s.ppu.bgp ∧ t.ppu.obp0 = s.ppu.obp0 ∧ t.ppu.obp1 = s.ppu.obp1 ∧
    t.ppu.wy = s.ppu.wy ∧ t.ppu.wx = s.ppu.wx ∧ (s.dma.active = false → t.ppu.oam = s.ppu.oam) ∧
    (∀ k, s.ifReg.getLsbD k = true → t.ifReg.getLsbD k = true) ∧
    t.ifReg.getLsbD 3 = s.ifReg.getLsbD 3 ∧ t.ifReg.getLsbD 4 = s.ifReg.getLsbD 4

/-- O17. Interrupt entry: which source, what is saved, what is cleared, where PC goes (vectors, cost: the spec's decisions D46,
D5). From 60_exceptions.md (R340, R342, R343, R344). -/
def Obligations.InterruptEntry : Prop :=
  ∀ (s : State) (i : Nat), i < 5 → s.ime = true → s.ie.getLsbD i = true → s.ifReg.getLsbD i = true →
    (∀ j < i, (s.ie.getLsbD j && s.ifReg.getLsbD j) = false) →
    ∃ t, cpuStep s = .next t ∧ t.pc = BitVec.ofNat 16 (0x40 + 8 * i) ∧ t.cyclesLeft = 5 ∧ t.sp = s.sp - 2 ∧
      { t with pc := s.pc, sp := s.sp, cyclesLeft := s.cyclesLeft } =
        busWrite (s.sp - 2) (loByte s.pc) (busWrite (s.sp - 1) (hiByte s.pc)
          { s with halted := false, ifReg := s.ifReg &&& ~~~ ((1 : BitVec 5) <<< i), ime := false, imeEnabling := false }) ∧
      SameRegisters [] s t ∧ t.f = s.f ∧
      ∀ x, x ≠ 0xFF0F → storeReach (s.sp - 1) x = false → storeReach (s.sp - 2) x = false → busRead x t = busRead x s

/-- O18. A halted CPU waits, and wakes even with IME = 0; the EI of the instruction before takes effect after the next fetch,
before any interrupt. From 47_system.md (R322, R325), 60_exceptions.md (R340). -/
def Obligations.HaltAndEiInTheCpuStep : Prop :=
  (∀ s : State, s.halted = true → (∀ j < 5, (s.ie.getLsbD j && s.ifReg.getLsbD j) = false) →
    cpuStep s = .next { s with cyclesLeft := 1 }) ∧
  (∀ s : State, s.halted = true → (∃ j < 5, (s.ie.getLsbD j && s.ifReg.getLsbD j) = true) → s.ime = false →
    cpuStep s = exec (fetch s) { s with halted := false, ime := s.imeEnabling, imeEnabling := false }) ∧
  ∀ s : State, s.halted = false → s.ime = false → s.imeEnabling = true →
    cpuStep s = exec (fetch s) { s with ime := true, imeEnabling := false }

/-- O19. RETI pops PC and sets IME at once; after an interrupt entry it resumes the interrupted program. From 46_control.md
(R310), 60_exceptions.md (R343, R346). -/
def Obligations.RetiReturnsFromInterrupt : Prop :=
  (∀ s : State, ∃ t, exec .reti s = .next t ∧ t.pc = stackTop s ∧ t.sp = s.sp + 2 ∧ t.cyclesLeft = 4 ∧
    SameRegisters [] s t ∧ t.f = s.f ∧ t.ime = true ∧ t.imeEnabling = false ∧
    { t with pc := s.pc, sp := s.sp, cyclesLeft := s.cyclesLeft, ime := s.ime, imeEnabling := s.imeEnabling } = s ∧
    ∀ x, busRead x t = busRead x s) ∧
  ∀ s : State, s.ime = true → pending s ≠ 0 → plainStorage s (s.sp - 1) = true → plainStorage s (s.sp - 2) = true →
    ∃ t u, cpuStep s = .next t ∧ exec .reti t = .next u ∧ u.pc = s.pc ∧ u.sp = s.sp ∧ u.ime = true ∧
      SameRegisters [] s u ∧ u.f = s.f

/-- O20. Push16 and Pop16, and that a pop after a push yields the value and restores SP. Formalises R11. -/
def Obligations.PushThenPop : Prop :=
  (∀ (v : Word) (s t : State), t = push16 v s → t.sp = s.sp - 2 ∧
    { t with sp := s.sp } = busWrite (s.sp - 2) (loByte v) (busWrite (s.sp - 1) (hiByte v) s)) ∧
  (∀ s : State, popValue s = stackTop s ∧ popState s = { s with sp := s.sp + 2 }) ∧
  ∀ (v : Word) (s : State), plainStorage s (s.sp - 1) = true → plainStorage s (s.sp - 2) = true →
    popValue (push16 v s) = v ∧ (popState (push16 v s)).sp = s.sp

/-- O21. LD r,r', LD r,n, LD r,(HL): the register gets the value, nothing else changes. Formalises R151, R152, R153. -/
def Obligations.RegisterLoads : Prop :=
  (∀ dst r : R8, encode (Fam.ldRegReg dst r) = [BitVec.ofNat 8 (0x40 + 8 * r8Index dst + r8Index r)] ∧
    LoadsTo (Fam.ldRegReg dst r) dst (getR8 r) 1 1) ∧
  (∀ (dst : R8) (n : Byte), encode (Fam.ldRegImm dst n) = [BitVec.ofNat 8 (0x06 + 8 * r8Index dst), n] ∧
    LoadsTo (Fam.ldRegImm dst n) dst (fun _ => n) 2 2) ∧
  ∀ dst : R8, encode (Fam.ldRegInd dst) = [BitVec.ofNat 8 (0x46 + 8 * r8Index dst)] ∧
    LoadsTo (Fam.ldRegInd dst) dst (fun s => busRead (regHL s) s) 1 2

/-- O22. LD A,(BC), LD A,(DE), LD A,(nn), LDH A,(n), LD A,(C). Formalises R156, R157, R160, R166, R168. -/
def Obligations.AccumulatorLoads : Prop :=
  encode .ld_A_iBC = [0x0A] ∧ LoadsTo .ld_A_iBC .a (fun s => busRead (regBC s) s) 1 2 ∧
  encode .ld_A_iDE = [0x1A] ∧ LoadsTo .ld_A_iDE .a (fun s => busRead (regDE s) s) 1 2 ∧
  (∀ nn : Word, encode (.ld_A_inn nn) = [0xFA, loByte nn, hiByte nn] ∧ LoadsTo (.ld_A_inn nn) .a (fun s => busRead nn s) 3 4) ∧
  (∀ n : Byte, encode (.ldh_A_n n) = [0xF0, n] ∧
    LoadsTo (.ldh_A_n n) .a (fun s => busRead (BitVec.ofNat 16 (0xFF00 + n.toNat)) s) 2 3) ∧
  encode .ld_A_iC = [0xF2] ∧ LoadsTo .ld_A_iC .a (fun s => busRead (BitVec.ofNat 16 (0xFF00 + s.c.toNat)) s) 1 2

/-- O23. LD A,(HL+) and LD A,(HL-): the byte at HL, then HL moves by one. Formalises R162, R163. -/
def Obligations.AccumulatorLoadsMovingHl : Prop :=
  encode .ld_A_iHLp = [0x2A] ∧ encode .ld_A_iHLm = [0x3A] ∧
  (∀ s : State, ∃ t, exec .ld_A_iHLp s = .next t ∧ t.a = busRead (regHL s) s ∧ regHL t = regHL s + 1 ∧
    SameRegisters [.a, .h, .l] s t ∧ t.f = s.f ∧ t.sp = s.sp ∧ Ends 1 2 s t ∧ OnlyRegisters s t) ∧
  ∀ s : State, ∃ t, exec .ld_A_iHLm s = .next t ∧ t.a = busRead (regHL s) s ∧ regHL t = regHL s - 1 ∧
    SameRegisters [.a, .h, .l] s t ∧ t.f = s.f ∧ t.sp = s.sp ∧ Ends 1 2 s t ∧ OnlyRegisters s t

/-- O24. LD (HL),r, LD (HL),n, LD (BC),A, LD (DE),A, LD (nn),A, LDH (n),A, LD (C),A. Formalises R154, R155, R158, R159, R161,
R167, R169. -/
def Obligations.ByteStores : Prop :=
  (∀ r : R8, encode (Fam.ldIndReg r) = [BitVec.ofNat 8 (0x70 + r8Index r)] ∧ StoresByte (Fam.ldIndReg r) regHL (getR8 r) 1 2) ∧
  (∀ n : Byte, encode (.ld_iHL_n n) = [0x36, n] ∧ StoresByte (.ld_iHL_n n) regHL (fun _ => n) 2 3) ∧
  encode .ld_iBC_A = [0x02] ∧ StoresByte .ld_iBC_A regBC State.a 1 2 ∧
  encode .ld_iDE_A = [0x12] ∧ StoresByte .ld_iDE_A regDE State.a 1 2 ∧
  (∀ nn : Word, encode (.ld_inn_A nn) = [0xEA, loByte nn, hiByte nn] ∧ StoresByte (.ld_inn_A nn) (fun _ => nn) State.a 3 4) ∧
  (∀ n : Byte, encode (.ldh_n_A n) = [0xE0, n] ∧
    StoresByte (.ldh_n_A n) (fun _ => BitVec.ofNat 16 (0xFF00 + n.toNat)) State.a 2 3) ∧
  encode .ld_iC_A = [0xE2] ∧ StoresByte .ld_iC_A (fun s => BitVec.ofNat 16 (0xFF00 + s.c.toNat)) State.a 1 2

/-- O25. LD (HL+),A and LD (HL-),A: A at the old HL, then HL moves by one even when the bus drops the write (the spec's decision
D21). From 40_load8.md (R164, R165), 30_encoding.md (R124). -/
def Obligations.StoresMovingHl : Prop :=
  encode .ld_iHLp_A = [0x22] ∧ encode .ld_iHLm_A = [0x32] ∧
  (∀ s : State, ∃ t, exec .ld_iHLp_A s = .next t ∧ Stored (regHL s) s.a s t ∧ regHL t = regHL s + 1 ∧
    SameRegisters [.h, .l] s t ∧ t.f = s.f ∧ t.sp = s.sp ∧ Ends 1 2 s t) ∧
  ∀ s : State, ∃ t, exec .ld_iHLm_A s = .next t ∧ Stored (regHL s) s.a s t ∧ regHL t = regHL s - 1 ∧
    SameRegisters [.h, .l] s t ∧ t.f = s.f ∧ t.sp = s.sp ∧ Ends 1 2 s t

/-- O26. LD rr,nn and LD SP,HL. Formalises R181, R183. -/
def Obligations.PairLoads : Prop :=
  (∀ (p : R16) (nn : Word), encode (Fam.ldPairImm p nn) = [BitVec.ofNat 8 (0x01 + 16 * r16Index p), loByte nn, hiByte nn] ∧
    ∀ s, ∃ t, exec (Fam.ldPairImm p nn) s = .next t ∧ getPair p t = nn ∧ (∀ q, q ≠ p → getPair q t = getPair q s) ∧
      t.a = s.a ∧ t.f = s.f ∧ Ends 3 3 s t ∧ OnlyRegisters s t) ∧
  encode .ld_SP_HL = [0xF9] ∧
  ∀ s, ∃ t, exec .ld_SP_HL s = .next t ∧ t.sp = regHL s ∧ SameRegisters [] s t ∧ t.f = s.f ∧ Ends 1 2 s t ∧ OnlyRegisters s t

/-- O27. LD (nn),SP: the low byte of SP at nn, the high byte at nn + 1 modulo 2^16. Formalises R182. -/
def Obligations.StoreStackPointer : Prop :=
  ∀ nn : Word, encode (.ld_inn_SP nn) = [0x08, loByte nn, hiByte nn] ∧
    ∀ s, ∃ t, exec (.ld_inn_SP nn) s = .next t ∧ StoredTwo nn (loByte s.sp) (nn + 1) (hiByte s.sp) s t ∧
      SameRegisters [] s t ∧ t.f = s.f ∧ t.sp = s.sp ∧ Ends 3 5 s t

/-- O28. LD HL,SP+e and ADD SP,e: a signed offset, H and C from the low byte only, Z and N cleared. Formalises R184, R244, R245. -/
def Obligations.StackPointerPlusOffset : Prop :=
  ∀ e : Byte, encode (.ld_HL_SPe e) = [0xF8, e] ∧ encode (.add_SP_e e) = [0xE8, e] ∧ ∀ s : State,
    let sum : Word := BitVec.ofInt 16 ((s.sp.toNat : Int) + e.toInt)
    let h := decide (0x0F < s.sp.toNat % 16 + e.toNat % 16)
    let c := decide (0xFF < s.sp.toNat % 256 + e.toNat)
    (∃ t, exec (.ld_HL_SPe e) s = .next t ∧ regHL t = sum ∧ FlagsAre false false h c t ∧
      SameRegisters [.h, .l] s t ∧ t.sp = s.sp ∧ Ends 2 3 s t ∧ OnlyRegisters s t) ∧
    ∃ t, exec (.add_SP_e e) s = .next t ∧ t.sp = sum ∧ FlagsAre false false h c t ∧
      SameRegisters [] s t ∧ Ends 2 4 s t ∧ OnlyRegisters s t

/-- O29. PUSH rr: high byte at SP − 1, low byte at SP − 2, SP 2 lower. Formalises R185. -/
def Obligations.PushPair : Prop :=
  ∀ p : R16Stk, encode (Fam.push p) = [BitVec.ofNat 8 (0xC5 + 16 * r16StkIndex p)] ∧
    ∀ s, ∃ t, exec (Fam.push p) s = .next t ∧
      StoredTwo (s.sp - 1) (hiByte (getStk p s)) (s.sp - 2) (loByte (getStk p s)) s t ∧ t.sp = s.sp - 2 ∧
      SameRegisters [] s t ∧ t.f = s.f ∧ Ends 1 4 s t

/-- O30. POP rr and POP AF: the word at SP, SP 2 higher; POP AF sets all four flags and discards the low nibble. Formalises
R186, R187. -/
def Obligations.PopPair : Prop :=
  ∀ p : R16Stk, encode (Fam.pop p) = [BitVec.ofNat 8 (0xC1 + 16 * r16StkIndex p)] ∧
    ∀ s, ∃ t, exec (Fam.pop p) s = .next t ∧
      getStk p t = (if p = .af then stackTop s &&& 0xFFF0 else stackTop s) ∧
      (p = .af → FlagsAre ((stackTop s).getLsbD 7) ((stackTop s).getLsbD 6) ((stackTop s).getLsbD 5) ((stackTop s).getLsbD 4) t) ∧
      (∀ q, q ≠ p → getStk q t = getStk q s) ∧ t.sp = s.sp + 2 ∧ Ends 1 3 s t ∧ OnlyRegisters s t

/-- O31. ADD and ADC on a register, the byte at HL and an immediate, with all four flags. Formalises R201, R202, R203, R204,
R205, R206. -/
def Obligations.AddAndAdc : Prop :=
  AluEncodings .add ∧ AluEncodings .adc ∧
  AluForms .add (fun i v len cyc => ∀ s, ∃ t, exec i s = .next t ∧ t.a = s.a + v s ∧
    FlagsAre (s.a + v s == 0) false (decide (0x0F < s.a.toNat % 16 + (v s).toNat % 16)) (decide (0xFF < s.a.toNat + (v s).toNat)) t ∧
    AluFrame len cyc s t) ∧
  AluForms .adc (fun i v len cyc => ∀ s, ∃ t, exec i s = .next t ∧ ∀ ci, ci = (s.f.getLsbD 4).toNat →
    t.a = BitVec.ofNat 8 (s.a.toNat + (v s).toNat + ci) ∧
    FlagsAre (t.a == 0) false (decide (0x0F < s.a.toNat % 16 + (v s).toNat % 16 + ci))
      (decide (0xFF < s.a.toNat + (v s).toNat + ci)) t ∧ AluFrame len cyc s t)

/-- O32. SUB and SBC on a register, the byte at HL and an immediate, with all four flags. Formalises R207, R208, R209, R210,
R211, R212. -/
def Obligations.SubAndSbc : Prop :=
  AluEncodings .sub ∧ AluEncodings .sbc ∧
  AluForms .sub (fun i v len cyc => ∀ s, ∃ t, exec i s = .next t ∧ t.a = s.a - v s ∧
    FlagsAre (s.a == v s) true (decide (s.a.toNat % 16 < (v s).toNat % 16)) (decide (s.a.toNat < (v s).toNat)) t ∧
    AluFrame len cyc s t) ∧
  AluForms .sbc (fun i v len cyc => ∀ s, ∃ t, exec i s = .next t ∧ ∀ ci, ci = (s.f.getLsbD 4).toNat →
    t.a = s.a - v s - BitVec.ofNat 8 ci ∧
    FlagsAre (t.a == 0) true (decide (s.a.toNat % 16 < (v s).toNat % 16 + ci)) (decide (s.a.toNat < (v s).toNat + ci)) t ∧
    AluFrame len cyc s t)

/-- O33. AND, XOR, OR on a register, the byte at HL and an immediate, with all four flags. Formalises R213, R214, R215, R216,
R217, R218, R219, R220, R221. -/
def Obligations.AndXorOr : Prop :=
  AluEncodings .and ∧ AluEncodings .xor ∧ AluEncodings .or ∧
  AluForms .and (fun i v len cyc => ∀ s, ∃ t, exec i s = .next t ∧ (∀ k, t.a.getLsbD k = (s.a.getLsbD k && (v s).getLsbD k)) ∧
    FlagsAre (t.a == 0) false true false t ∧ AluFrame len cyc s t) ∧
  AluForms .xor (fun i v len cyc => ∀ s, ∃ t, exec i s = .next t ∧ (∀ k, t.a.getLsbD k = (s.a.getLsbD k ^^ (v s).getLsbD k)) ∧
    FlagsAre (t.a == 0) false false false t ∧ AluFrame len cyc s t) ∧
  AluForms .or (fun i v len cyc => ∀ s, ∃ t, exec i s = .next t ∧ (∀ k, t.a.getLsbD k = (s.a.getLsbD k || (v s).getLsbD k)) ∧
    FlagsAre (t.a == 0) false false false t ∧ AluFrame len cyc s t)

/-- O34. CP on a register, the byte at HL and an immediate: the flags of a subtraction, A unchanged. Formalises R222, R223,
R224. -/
def Obligations.Compare : Prop :=
  AluEncodings .cp ∧
  AluForms .cp (fun i v len cyc => ∀ s, ∃ t, exec i s = .next t ∧
    FlagsAre (s.a == v s) true (decide (s.a.toNat % 16 < (v s).toNat % 16)) (decide (s.a.toNat < (v s).toNat)) t ∧
    t.a = s.a ∧ AluFrame len cyc s t)

/-- O35. INC r and DEC r: Z, N, H as the rule says, C unchanged. Formalises R225, R227. -/
def Obligations.IncDecRegister : Prop :=
  (∀ r : R8, encode (Fam.incReg r) = [BitVec.ofNat 8 (0x04 + 8 * r8Index r)] ∧
    ∀ s, ∃ t, exec (Fam.incReg r) s = .next t ∧ getR8 r t = getR8 r s + 1 ∧
      FlagsAre (getR8 r s == 0xFF) false (decide ((getR8 r s).toNat % 16 = 15)) (s.f.getLsbD 4) t ∧
      SameRegisters [r] s t ∧ t.sp = s.sp ∧ Ends 1 1 s t ∧ OnlyRegisters s t) ∧
  ∀ r : R8, encode (Fam.decReg r) = [BitVec.ofNat 8 (0x05 + 8 * r8Index r)] ∧
    ∀ s, ∃ t, exec (Fam.decReg r) s = .next t ∧ getR8 r t = getR8 r s - 1 ∧
      FlagsAre (getR8 r s == 1) true (decide ((getR8 r s).toNat % 16 = 0)) (s.f.getLsbD 4) t ∧
      SameRegisters [r] s t ∧ t.sp = s.sp ∧ Ends 1 1 s t ∧ OnlyRegisters s t

/-- O36. INC (HL) and DEC (HL): the byte at HL one higher or lower, flags from the value read. Formalises R226, R228. -/
def Obligations.IncDecMemory : Prop :=
  encode .inc_iHL = [0x34] ∧ encode .dec_iHL = [0x35] ∧
  (∀ s v, v = busRead (regHL s) s → ∃ t, exec .inc_iHL s = .next t ∧ Stored (regHL s) (v + 1) s t ∧
    FlagsAre (v == 0xFF) false (decide (v.toNat % 16 = 15)) (s.f.getLsbD 4) t ∧
    SameRegisters [] s t ∧ t.sp = s.sp ∧ Ends 1 3 s t) ∧
  ∀ s v, v = busRead (regHL s) s → ∃ t, exec .dec_iHL s = .next t ∧ Stored (regHL s) (v - 1) s t ∧
    FlagsAre (v == 1) true (decide (v.toNat % 16 = 0)) (s.f.getLsbD 4) t ∧
    SameRegisters [] s t ∧ t.sp = s.sp ∧ Ends 1 3 s t

/-- O37. ADD HL,rr with its flags (Z kept), INC rr and DEC rr without flags. From 43_alu16.md (R241, R242, R243). -/
def Obligations.SixteenBitArithmetic : Prop :=
  (∀ p : R16, encode (Fam.addHl p) = [BitVec.ofNat 8 (0x09 + 16 * r16Index p)] ∧
    ∀ s, ∃ t, exec (Fam.addHl p) s = .next t ∧ regHL t = regHL s + getPair p s ∧
      FlagsAre (s.f.getLsbD 7) false (decide (0x0FFF < (regHL s).toNat % 4096 + (getPair p s).toNat % 4096))
        (decide (0xFFFF < (regHL s).toNat + (getPair p s).toNat)) t ∧
      SameRegisters [.h, .l] s t ∧ t.sp = s.sp ∧ Ends 1 2 s t ∧ OnlyRegisters s t) ∧
  (∀ p : R16, encode (Fam.incPair p) = [BitVec.ofNat 8 (0x03 + 16 * r16Index p)] ∧
    ∀ s, ∃ t, exec (Fam.incPair p) s = .next t ∧ getPair p t = getPair p s + 1 ∧ (∀ q, q ≠ p → getPair q t = getPair q s) ∧
      t.a = s.a ∧ t.f = s.f ∧ Ends 1 2 s t ∧ OnlyRegisters s t) ∧
  ∀ p : R16, encode (Fam.decPair p) = [BitVec.ofNat 8 (0x0B + 16 * r16Index p)] ∧
    ∀ s, ∃ t, exec (Fam.decPair p) s = .next t ∧ getPair p t = getPair p s - 1 ∧ (∀ q, q ≠ p → getPair q t = getPair q s) ∧
      t.a = s.a ∧ t.f = s.f ∧ Ends 1 2 s t ∧ OnlyRegisters s t

/-- O38. RLCA, RLA, RRCA, RRA: A rotated, C the bit shifted out, Z, N and H cleared (Z = 0: the spec's decision D17). From
44_acc_misc.md (R250, R251, R252, R253, R254). -/
def Obligations.AccumulatorRotates : Prop :=
  ∀ r ∈ [(Instr.rlca, (0x07 : Byte), RotOp.rlc), (.rla, 0x17, .rl), (.rrca, 0x0F, .rrc), (.rra, 0x1F, .rr)],
    encode r.1 = [r.2.1] ∧ ∀ s, ∃ t, exec r.1 s = .next t ∧
      t.a.toNat = (shiftTable r.2.2 s.a.toNat (s.f.getLsbD 4).toNat).1 ∧
      FlagsAre false false false (shiftTable r.2.2 s.a.toNat (s.f.getLsbD 4).toNat).2 t ∧ AluFrame 1 1 s t

/-- O39. DAA: the correction from the A and F of entry, Z from the new A, N kept, H cleared, C as the rule says. From
44_acc_misc.md (R255). -/
def Obligations.DecimalAdjust : Prop :=
  encode .daa = [0x27] ∧ ∀ s : State, ∃ t, exec .daa s = .next t ∧ ∀ n h c low high : Bool,
    n = s.f.getLsbD 6 → h = s.f.getLsbD 5 → c = s.f.getLsbD 4 →
    low = (h || (!n && decide (9 < s.a.toNat % 16))) → high = (c || (!n && decide (0x99 < s.a.toNat))) →
    t.a = (if n then s.a - BitVec.ofNat 8 (6 * low.toNat + 0x60 * high.toNat)
      else s.a + BitVec.ofNat 8 (6 * low.toNat + 0x60 * high.toNat)) ∧
    FlagsAre (t.a == 0) n false high t ∧ AluFrame 1 1 s t

/-- O40. DAA after ADD or SUB of two-digit decimal numbers gives the decimal result. From 44_acc_misc.md (R255),
95_test_vectors.md (family 5). -/
def Obligations.DecimalAdjustCorrectsBcd : Prop :=
  ∀ x y : Nat, x < 100 → y < 100 → ∀ s : State, s.a = bcd x → s.b = bcd y →
    (∃ t u, exec (Fam.aluReg .add .b) s = .next t ∧ exec .daa t = .next u ∧ u.a = bcd ((x + y) % 100) ∧
      u.f.getLsbD 4 = decide (100 ≤ x + y)) ∧
    ∃ t u, exec (Fam.aluReg .sub .b) s = .next t ∧ exec .daa t = .next u ∧ u.a = bcd ((x + 100 - y) % 100) ∧
      u.f.getLsbD 4 = decide (x < y)

/-- O41. CPL, SCF, CCF (the spec's decision D20). From 44_acc_misc.md (R256, R257, R258). -/
def Obligations.ComplementAndCarryFlag : Prop :=
  encode .cpl = [0x2F] ∧ encode .scf = [0x37] ∧ encode .ccf = [0x3F] ∧
  (∀ s, ∃ t, exec .cpl s = .next t ∧ t.a.toNat = 255 - s.a.toNat ∧
    FlagsAre (s.f.getLsbD 7) true true (s.f.getLsbD 4) t ∧ AluFrame 1 1 s t) ∧
  (∀ s, ∃ t, exec .scf s = .next t ∧ t.a = s.a ∧ FlagsAre (s.f.getLsbD 7) false false true t ∧ AluFrame 1 1 s t) ∧
  ∀ s, ∃ t, exec .ccf s = .next t ∧ t.a = s.a ∧ FlagsAre (s.f.getLsbD 7) false false (!s.f.getLsbD 4) t ∧ AluFrame 1 1 s t

/-- O42. RLC, RRC, RL, RR, SLA, SRA, SWAP, SRL on a register (SWAP's C = 0 is general knowledge in the spec: R283, log entry
14). From 45_cb.md (R270, R271, R273, R275, R277, R279, R281, R283, R285). -/
def Obligations.CbShiftRegister : Prop :=
  ∀ (op : RotOp) (r : R8), encode (Fam.rotReg op r) = [0xCB, BitVec.ofNat 8 (8 * rotIndex op + r8Index r)] ∧
    ∀ s, ∃ t, exec (Fam.rotReg op r) s = .next t ∧
      (getR8 r t).toNat = (shiftTable op (getR8 r s).toNat (s.f.getLsbD 4).toNat).1 ∧
      FlagsAre (getR8 r t == 0) false false (shiftTable op (getR8 r s).toNat (s.f.getLsbD 4).toNat).2 t ∧
      SameRegisters [r] s t ∧ t.sp = s.sp ∧ Ends 2 2 s t ∧ OnlyRegisters s t

/-- O43. RLC, RRC, RL, RR, SLA, SRA, SWAP, SRL on the byte at HL (SWAP's C = 0 is general knowledge in the spec: R283, R284, log
entry 14). From 45_cb.md (R270, R272, R274, R276, R278, R280, R282, R283, R284, R286). -/
def Obligations.CbShiftMemory : Prop :=
  ∀ op : RotOp, encode (Fam.rotInd op) = [0xCB, BitVec.ofNat 8 (8 * rotIndex op + 6)] ∧
    ∀ s, ∃ t, exec (Fam.rotInd op) s = .next t ∧ ∀ r : Nat × Bool,
      r = shiftTable op (busRead (regHL s) s).toNat (s.f.getLsbD 4).toNat →
      Stored (regHL s) (BitVec.ofNat 8 r.1) s t ∧ FlagsAre (BitVec.ofNat 8 r.1 == 0) false false r.2 t ∧
      SameRegisters [] s t ∧ t.sp = s.sp ∧ Ends 2 4 s t

/-- O44. BIT b on a register and on the byte at HL: Z is the complement of the tested bit, N = 0, H = 1, C kept, nothing else
written (Z: general knowledge, R287). From 45_cb.md (R287, R288). -/
def Obligations.BitTest : Prop :=
  (∀ (b : Oct) (r : R8), encode (Fam.bitReg b r) = [0xCB, BitVec.ofNat 8 (0x40 + 8 * octNat b + r8Index r)] ∧
    ∀ s, ∃ t, exec (Fam.bitReg b r) s = .next t ∧ FlagsAre (!(getR8 r s).getLsbD (octNat b)) false true (s.f.getLsbD 4) t ∧
      SameRegisters [] s t ∧ t.sp = s.sp ∧ Ends 2 2 s t ∧ OnlyRegisters s t) ∧
  ∀ b : Oct, encode (Fam.bitInd b) = [0xCB, BitVec.ofNat 8 (0x46 + 8 * octNat b)] ∧
    ∀ s, ∃ t, exec (Fam.bitInd b) s = .next t ∧
      FlagsAre (!(busRead (regHL s) s).getLsbD (octNat b)) false true (s.f.getLsbD 4) t ∧
      SameRegisters [] s t ∧ t.sp = s.sp ∧ Ends 2 3 s t ∧ OnlyRegisters s t

/-- O45. RES b,r and SET b,r: bit b cleared or set, every other bit and every flag kept. Formalises R289, R291. -/
def Obligations.ResSetRegister : Prop :=
  (∀ (b : Oct) (r : R8), encode (Fam.resReg b r) = [0xCB, BitVec.ofNat 8 (0x80 + 8 * octNat b + r8Index r)] ∧
    ∀ s, ∃ t, exec (Fam.resReg b r) s = .next t ∧
      (∀ k, (getR8 r t).getLsbD k = if k = octNat b then false else (getR8 r s).getLsbD k) ∧
      SameRegisters [r] s t ∧ t.f = s.f ∧ t.sp = s.sp ∧ Ends 2 2 s t ∧ OnlyRegisters s t) ∧
  ∀ (b : Oct) (r : R8), encode (Fam.setReg b r) = [0xCB, BitVec.ofNat 8 (0xC0 + 8 * octNat b + r8Index r)] ∧
    ∀ s, ∃ t, exec (Fam.setReg b r) s = .next t ∧
      (∀ k, (getR8 r t).getLsbD k = if k = octNat b then true else (getR8 r s).getLsbD k) ∧
      SameRegisters [r] s t ∧ t.f = s.f ∧ t.sp = s.sp ∧ Ends 2 2 s t ∧ OnlyRegisters s t

/-- O46. RES b,(HL) and SET b,(HL): the byte at HL written back with bit b cleared or set. Formalises R290, R292. -/
def Obligations.ResSetMemory : Prop :=
  (∀ b : Oct, encode (Fam.resInd b) = [0xCB, BitVec.ofNat 8 (0x86 + 8 * octNat b)] ∧
    ∀ s, ∃ t v, exec (Fam.resInd b) s = .next t ∧ Stored (regHL s) v s t ∧
      (∀ k, v.getLsbD k = if k = octNat b then false else (busRead (regHL s) s).getLsbD k) ∧
      SameRegisters [] s t ∧ t.f = s.f ∧ t.sp = s.sp ∧ Ends 2 4 s t) ∧
  ∀ b : Oct, encode (Fam.setInd b) = [0xCB, BitVec.ofNat 8 (0xC6 + 8 * octNat b)] ∧
    ∀ s, ∃ t v, exec (Fam.setInd b) s = .next t ∧ Stored (regHL s) v s t ∧
      (∀ k, v.getLsbD k = if k = octNat b then true else (busRead (regHL s) s).getLsbD k) ∧
      SameRegisters [] s t ∧ t.f = s.f ∧ t.sp = s.sp ∧ Ends 2 4 s t

/-- O47. JP nn, JP cc,nn, JP HL. Formalises R301, R302, R303. -/
def Obligations.Jumps : Prop :=
  (∀ nn : Word, encode (.jp_nn nn) = [0xC3, loByte nn, hiByte nn] ∧ ∀ s, ∃ t, exec (.jp_nn nn) s = .next t ∧ JumpsTo nn 4 s t) ∧
  (encode .jp_HL = [0xE9] ∧ ∀ s, ∃ t, exec .jp_HL s = .next t ∧ JumpsTo (regHL s) 1 s t) ∧
  ∀ (k : Cond) (nn : Word), encode (Fam.jpCond k nn) = [BitVec.ofNat 8 (0xC2 + 8 * condIndex k), loByte nn, hiByte nn] ∧
    ∀ s, ∃ t, exec (Fam.jpCond k nn) s = .next t ∧
      (CondMet k s → JumpsTo nn 4 s t) ∧ (¬ CondMet k s → JumpsTo (s.pc + 3) 3 s t)

/-- O48. JR e and JR cc,e: the target counts from the address after the two bytes, modulo 2^16. Formalises R304, R305. -/
def Obligations.RelativeJumps : Prop :=
  (∀ e : Byte, encode (.jr_e e) = [0x18, e] ∧
    ∀ s, ∃ t, exec (.jr_e e) s = .next t ∧ JumpsTo (BitVec.ofInt 16 ((s.pc.toNat : Int) + 2 + e.toInt)) 3 s t) ∧
  ∀ (k : Cond) (e : Byte), encode (Fam.jrCond k e) = [BitVec.ofNat 8 (0x20 + 8 * condIndex k), e] ∧
    ∀ s, ∃ t, exec (Fam.jrCond k e) s = .next t ∧
      (CondMet k s → JumpsTo (BitVec.ofInt 16 ((s.pc.toNat : Int) + 2 + e.toInt)) 3 s t) ∧
      (¬ CondMet k s → JumpsTo (s.pc + 2) 2 s t)

/-- O49. CALL nn and CALL cc,nn: the address after the instruction is pushed, PC is nn. Formalises R306, R307. -/
def Obligations.Calls : Prop :=
  (∀ nn : Word, encode (.call_nn nn) = [0xCD, loByte nn, hiByte nn] ∧
    ∀ s, ∃ t, exec (.call_nn nn) s = .next t ∧ CallsTo nn (s.pc + 3) 6 s t) ∧
  ∀ (k : Cond) (nn : Word), encode (Fam.callCond k nn) = [BitVec.ofNat 8 (0xC4 + 8 * condIndex k), loByte nn, hiByte nn] ∧
    ∀ s, ∃ t, exec (Fam.callCond k nn) s = .next t ∧
      (CondMet k s → CallsTo nn (s.pc + 3) 6 s t) ∧ (¬ CondMet k s → JumpsTo (s.pc + 3) 3 s t)

/-- O50. RET and RET cc: PC is the word at SP, SP 2 higher. Formalises R308, R309. -/
def Obligations.Returns : Prop :=
  (encode .ret = [0xC9] ∧ ∀ s, ∃ t, exec .ret s = .next t ∧ t.pc = stackTop s ∧ t.sp = s.sp + 2 ∧ t.cyclesLeft = 4 ∧
    SameRegisters [] s t ∧ t.f = s.f ∧ OnlyRegisters s t) ∧
  ∀ k : Cond, encode (Fam.retCond k) = [BitVec.ofNat 8 (0xC0 + 8 * condIndex k)] ∧
    ∀ s, ∃ t, exec (Fam.retCond k) s = .next t ∧
      (CondMet k s → t.pc = stackTop s ∧ t.sp = s.sp + 2 ∧ t.cyclesLeft = 5 ∧
        SameRegisters [] s t ∧ t.f = s.f ∧ OnlyRegisters s t) ∧
      (¬ CondMet k s → JumpsTo (s.pc + 1) 2 s t)

/-- O51. RST t: a one-byte call of 8 × y. From 46_control.md (R312). -/
def Obligations.Restarts : Prop :=
  ∀ y : Oct, encode (Fam.rst y) = [BitVec.ofNat 8 (0xC7 + 8 * octNat y)] ∧
    ∀ s, ∃ t, exec (Fam.rst y) s = .next t ∧ CallsTo (BitVec.ofNat 16 (8 * octNat y)) (s.pc + 1) 4 s t ∧ t.ime = s.ime

/-- O52. NOP, STOP, HALT, DI, EI: the whole next state (STOP as a two-byte no-operation: the spec's decision D8). From
47_system.md (R321, R322, R323, R324, R325). -/
def Obligations.NopStopHaltDiEi : Prop :=
  encode .nop = [0x00] ∧ (∀ n, encode (.stop n) = [0x10, n]) ∧ encode .halt = [0x76] ∧ encode .di = [0xF3] ∧ encode .ei = [0xFB] ∧
  ∀ s : State,
    exec .nop s = .next { s with pc := s.pc + 1, cyclesLeft := 1 } ∧
    (∀ n, exec (.stop n) s = .next { s with pc := s.pc + 2, cyclesLeft := 1 }) ∧
    exec .halt s = .next { s with pc := s.pc + 1, cyclesLeft := 1, halted := true } ∧
    exec .di s = .next { s with pc := s.pc + 1, cyclesLeft := 1, ime := false, imeEnabling := false } ∧
    exec .ei s = .next { s with pc := s.pc + 1, cyclesLeft := 1, imeEnabling := true }

/-- O53. The eleven unassigned opcodes: PC past the byte, the fault recorded, nothing else changed; the CPU takes no further
step (the policy: D7). From 47_system.md (R330), 30_encoding.md (R133), 60_exceptions.md (R368). -/
def Obligations.IllegalOpcodesSetTheFault : Prop :=
  (∀ u : Unassigned, encode (Fam.illegal u) = [unassignedOp u] ∧
    unassignedOp u ∈ ([0xD3, 0xDB, 0xDD, 0xE3, 0xE4, 0xEB, 0xEC, 0xED, 0xF4, 0xFC, 0xFD] : List Byte) ∧
    ∀ s, exec (Fam.illegal u) s =
      .next { s with pc := s.pc + 1, cyclesLeft := 1, fault := some (.illegalOpcode (unassignedOp u)) }) ∧
  ∀ (s : State) (x : Fault), s.fault = some x → ∃ t, step s = .next t ∧ t.fault = some x ∧ t.pc = s.pc ∧ SameRegisters [] s t

/-- O54. What a bus write stores, what it cannot change, the WRAM mirror, the unusable region and the DMA mask. From
20_memory.md (R71, R73, R75, R77, R78, R79, R82, R83), 61_timer_dma_io.md (R393), 63_cartridge_mbc.md (R475). -/
def Obligations.BusStorageAndReach : Prop :=
  ∀ (a : Word) (v : Byte) (s : State),
    (∀ x, storeReach a x = false → busRead x (busWrite a v s) = busRead x s) ∧
    (plainStorage s a = true → busRead a (busWrite a v s) = v) ∧
    (0xC000 ≤ a.toNat ∧ a.toNat < 0xDE00 → busRead (a + 0x2000) (busWrite a v s) = v) ∧
    (0xFEA0 ≤ a.toNat ∧ a.toNat < 0xFF00 → busRead a s = 0 ∧ busWrite a v s = s) ∧
    (s.dma.active = true → (0x8000 ≤ a.toNat ∧ a.toNat < 0xA000) ∨ (0xFE00 ≤ a.toNat ∧ a.toNat < 0xFEA0) →
      busRead a s = 0xFF ∧ busWrite a v s = s)

/-- O55. What every I/O register reads after a write, unmapped I/O, and what a button change does (the spec's decisions D11,
D13, D22, D24, D38). From 20_memory.md (R80, R81, R84), 61_timer_dma_io.md (R384, R390, R400, R401, R402), 10_state.md (R40). -/
def Obligations.IoRegistersReadBack : Prop :=
  ∀ (s : State) (v : Byte),
    (∀ a ∈ ([0xFF01, 0xFF02, 0xFF05, 0xFF06, 0xFF40, 0xFF42, 0xFF43, 0xFF45, 0xFF46, 0xFF47, 0xFF48, 0xFF49, 0xFF4A, 0xFF4B] :
      List Word), busRead a (busWrite a v s) = v) ∧
    busRead 0xFF07 (busWrite 0xFF07 v s) = 0xF8 ||| (v &&& 0x07) ∧
    busRead 0xFF0F (busWrite 0xFF0F v s) = 0xE0 ||| (v &&& 0x1F) ∧
    busRead 0xFF04 (busWrite 0xFF04 v s) = 0 ∧ (busWrite 0xFF04 v s).timer.div16 = 0 ∧
    busRead 0xFF41 (busWrite 0xFF41 v s) = 0x80 ||| (v &&& 0x78) ||| (busRead 0xFF41 s &&& 0x07) ∧
    busRead 0xFF00 (busWrite 0xFF00 v s) &&& 0xF0 = 0xC0 ||| (v &&& 0x30) ∧
    (∀ p ∈ [(0, Button.right, Button.a), (1, .left, .b), (2, .up, .select), (3, .down, .start)],
      (busRead 0xFF00 (busWrite 0xFF00 v s)).getLsbD p.1 =
        !((!v.getLsbD 4 && isPressed p.2.1 s.buttons) || (!v.getLsbD 5 && isPressed p.2.2 s.buttons))) ∧
    (∀ (button : Button) (pressed : Bool) (t : State), t = pressButton button pressed s →
      (isPressed button s.buttons = pressed → t = s) ∧
      (isPressed button s.buttons ≠ pressed → isPressed button t.buttons = pressed ∧
        (∀ other, other ≠ button → isPressed other t.buttons = isPressed other s.buttons) ∧
        (∀ k, t.ifReg.getLsbD k = (decide (k = 4) || s.ifReg.getLsbD k)) ∧
        { t with buttons := s.buttons, ifReg := s.ifReg } = s)) ∧
    busWrite 0xFF44 v s = s ∧
    ∀ a : Word, 0xFF00 ≤ a.toNat → a.toNat < 0xFF80 →
      a ∉ ([0xFF00, 0xFF01, 0xFF02, 0xFF04, 0xFF05, 0xFF06, 0xFF07, 0xFF0F, 0xFF40, 0xFF41, 0xFF42, 0xFF43, 0xFF44, 0xFF45, 0xFF46,
        0xFF47, 0xFF48, 0xFF49, 0xFF4A, 0xFF4B] : List Word) → busRead a s = 0xFF ∧ busWrite a v s = s

/-- O56. The DMA engine: what starts it, what one tick copies, when it stops (the spec's decisions D24, D25). From
61_timer_dma_io.md (R390, R391, R392), 20_memory.md (R85, R86). -/
def Obligations.DmaCopiesOneByteATick : Prop :=
  (∀ (v : Byte) (s : State), busWrite 0xFF46 v s = { s with dma := ⟨true, v, 0⟩ }) ∧
  (∀ s t : State, s.dma.active = true → DmaOk s.dma → t = dmaPart s →
    (∀ k, Store.read t.ppu.oam k =
      if k = s.dma.offset then rawRead (BitVec.ofNat 16 (256 * s.dma.page.toNat + s.dma.offset)) s else Store.read s.ppu.oam k) ∧
    t.dma = ⟨decide (s.dma.offset + 1 < 160), s.dma.page, s.dma.offset + 1⟩ ∧
    (∀ p, p = t.ppu → { p with oam := s.ppu.oam } = s.ppu) ∧ { t with dma := s.dma, ppu := s.ppu } = s) ∧
  (∀ s : State, s.dma.active = false → dmaPart s = s) ∧
  ∀ (a : Word) (s : State) (d : Dma), d = s.dma → rawRead a s = busRead a { s with dma := { d with active := false } }

/-- O57. The timer: the divider, when TIMA counts, the reload and its request (the spec's decision D22). From 61_timer_dma_io.md
(R380, R381, R382, R383). -/
def Obligations.TimerCounts : Prop :=
  ∀ s t : State, t = timerPart s → ∀ period : Nat,
    period = (match (s.timer.tac.extractLsb' 0 2).toNat with
      | 0 => 1024
      | 1 => 16
      | 2 => 64
      | _ => 256) →
    ∀ counts : Bool, counts = (s.timer.tac.getLsbD 2 && decide ((s.timer.div16.toNat + 1) % period = 0)) →
    t.timer.div16 = s.timer.div16 + 1 ∧ t.timer.tma = s.timer.tma ∧ t.timer.tac = s.timer.tac ∧
    t.timer.tima = (if counts then (if s.timer.tima = 0xFF then s.timer.tma else s.timer.tima + 1) else s.timer.tima) ∧
    t.ifReg = (if counts && s.timer.tima == 0xFF then s.ifReg ||| 0b00100 else s.ifReg) ∧
    { t with timer := s.timer, ifReg := s.ifReg } = s

/-- O58. What a write to the ROM area does on each MBC, what the ROM and RAM windows then show, what an RTC latch captures (D32
to D36, D50; log entries 5, 6). From 63_cartridge_mbc.md (R471, R474, R475, R480, R481, R482, R490, R500, R501, R502, R510),
20_memory.md (R74). -/
def Obligations.BankRegisterWrites : Prop :=
  (∀ (s : State) (a : Word) (v : Byte) (t : State), a.toNat < 0x8000 → t = busWrite a v s → ∀ k, k = s.cart →
    (k.mbc = .mbc0 → t = s) ∧
    (∀ r, k.mbc = .mbc1 r →
      (a.toNat < 0x2000 → t = { s with cart := { k with mbc := .mbc1 { r with ramEnable := decide (v.toNat % 16 = 0xA) } } }) ∧
      (0x2000 ≤ a.toNat → a.toNat < 0x4000 → t = { s with cart := { k with mbc := .mbc1 { r with bank5 := BitVec.ofNat 5 (if v.toNat % 32 = 0 then 1 else v.toNat % 32) } } }) ∧
      (0x4000 ≤ a.toNat → a.toNat < 0x6000 → t = { s with cart := { k with mbc := .mbc1 { r with sec := BitVec.ofNat 2 v.toNat } } }) ∧
      (0x6000 ≤ a.toNat → t = { s with cart := { k with mbc := .mbc1 { r with mode := BitVec.ofNat 1 v.toNat } } })) ∧
    (∀ r, k.mbc = .mbc2 r →
      (a.toNat < 0x4000 → a.getLsbD 8 = false → t = { s with cart := { k with mbc := .mbc2 { r with ramEnable := decide (v.toNat % 16 = 0xA) } } }) ∧
      (a.toNat < 0x4000 → a.getLsbD 8 = true → t = { s with cart := { k with mbc := .mbc2 { r with bank4 := BitVec.ofNat 4 (if v.toNat % 16 = 0 then 1 else v.toNat % 16) } } }) ∧
      (0x4000 ≤ a.toNat → t = s)) ∧
    ∀ r, k.mbc = .mbc3 r →
      (a.toNat < 0x2000 → t = { s with cart := { k with mbc := .mbc3 { r with ramEnable := decide (v.toNat % 16 = 0xA) } } }) ∧
      (0x2000 ≤ a.toNat → a.toNat < 0x4000 → t = { s with cart := { k with mbc := .mbc3 { r with bank7 := BitVec.ofNat 7 (if v.toNat % 128 = 0 then 1 else v.toNat % 128) } } }) ∧
      (0x4000 ≤ a.toNat → a.toNat < 0x6000 → t = { s with cart := { k with mbc := .mbc3 { r with sel := BitVec.ofNat 4 v.toNat } } }) ∧
      (0x6000 ≤ a.toNat →
        (¬ (k.timer = true ∧ r.latchPrev = 0x00 ∧ v = 0x01 ∧ r.rtc.dh.getLsbD 6 = false) →
          t = { s with cart := { k with mbc := .mbc3 { r with latchPrev := v } } }) ∧
        (k.timer = true → r.latchPrev = 0x00 → v = 0x01 → r.rtc.dh.getLsbD 6 = false →
          ∀ now, now = Config.hostClockSeconds s.clockDraws → ∃ c : Rtc,
            t = { s with cart := { k with mbc := .mbc3 { r with latchPrev := v, rtc := c } }, clockDraws := s.clockDraws + 1 } ∧
            c.s.toNat = now % 60 ∧ c.m.toNat = now / 60 % 60 ∧ c.h.toNat = now / 3600 % 24 ∧ c.dl.toNat = now / 86400 % 256 ∧
            c.dh.toNat = 128 * (r.rtc.dh.getLsbD 7 || decide (512 ≤ now / 86400)).toNat + now / 86400 / 256 % 2))) ∧
  ∀ (s : State) (x : Word) (k : Cart), k = s.cart →
    (x.toNat < 0x4000 → ReadsImage x x.toNat s) ∧
    (0x4000 ≤ x.toNat → x.toNat < 0x8000 → ReadsImage x (0x4000 * romBank k.mbc + (x.toNat - 0x4000)) s) ∧
    (0xA000 ≤ x.toNat → x.toNat < 0xC000 → ∀ o size, o = x.toNat - 0xA000 → size = [0, 0, 8192, 32768, 131072, 65536].getD k.ramCode 0 →
      (k.mbc = .mbc0 → WindowCell x o s) ∧
      (∀ r, k.mbc = .mbc1 r → ∀ off, off = 0x2000 * (if r.mode = 1 then r.sec.toNat else 0) + o →
        if r.ramEnable = true ∧ off < size then WindowCell x off s else WindowEmpty x s) ∧
      (∀ r, k.mbc = .mbc2 r → if r.ramEnable = true then WindowNibble x (o % 512) s else WindowEmpty x s) ∧
      ∀ r, k.mbc = .mbc3 r →
        (r.ramEnable = false → WindowEmpty x s) ∧
        (r.ramEnable = true → r.sel.toNat < 4 → ∀ off, off = 0x2000 * r.sel.toNat + o →
          if off < size then WindowCell x off s else WindowEmpty x s) ∧
        (r.ramEnable = true → 4 ≤ r.sel.toNat → r.sel.toNat < 8 ∨ 12 < r.sel.toNat ∨ k.timer = false → WindowEmpty x s) ∧
        (r.ramEnable = true → k.timer = true →
          (r.sel = 0x8 → WindowClock x r.rtc.s (fun v => { r with rtc := { r.rtc with s := v &&& 0x3F } }) s) ∧
          (r.sel = 0x9 → WindowClock x r.rtc.m (fun v => { r with rtc := { r.rtc with m := v &&& 0x3F } }) s) ∧
          (r.sel = 0xA → WindowClock x r.rtc.h (fun v => { r with rtc := { r.rtc with h := v &&& 0x1F } }) s) ∧
          (r.sel = 0xB → WindowClock x r.rtc.dl (fun v => { r with rtc := { r.rtc with dl := v } }) s) ∧
          (r.sel = 0xC → WindowClock x r.rtc.dh (fun v => { r with rtc := { r.rtc with dh := v &&& 0xC1 } }) s)))

/-- O59. When the PPU requests VBlank and LCD-STAT, counts a frame and latches the coincidence flag: at mode transitions only
(D29). From 62_ppu.md (R421, R423, R424, R425, R446), 60_exceptions.md (R345), 10_state.md (R47). -/
def Obligations.PpuTransitionsAndRequests : Prop :=
  ∀ (p q : Ppu) (r : PpuRequests), ppuTick p = (q, r) →
    (r.vblank = true ↔ p.mode = .hblank ∧ q.mode = .vblank) ∧
    q.frameCount = (if r.vblank then p.frameCount + 1 else p.frameCount) ∧ q.front = (if r.vblank then p.framebuffer else p.front) ∧
    q.coincidence = (if p.mode = .drawPixels ∧ q.mode = .hblank then p.ly == p.lyc else p.coincidence) ∧
    (r.lcdStat = true ↔
      (p.mode = .drawPixels ∧ q.mode = .hblank ∧ (p.statEnables.getLsbD 0 = true ∨ (p.statEnables.getLsbD 3 = true ∧ p.ly = p.lyc))) ∨
      (p.mode = .hblank ∧ q.mode = .vblank ∧ p.statEnables.getLsbD 1 = true) ∨
      ((p.mode = .hblank ∨ p.mode = .vblank) ∧ q.mode = .oamScan ∧ p.statEnables.getLsbD 2 = true)) ∧
    ∀ s t : State, s.ppu = p → t = ppuPart s →
      t.ppu = q ∧ t.ifReg.getLsbD 0 = (s.ifReg.getLsbD 0 || r.vblank) ∧ t.ifReg.getLsbD 1 = (s.ifReg.getLsbD 1 || r.lcdStat) ∧
      (∀ k, 2 ≤ k → t.ifReg.getLsbD k = s.ifReg.getLsbD k) ∧ { t with ppu := s.ppu, ifReg := s.ifReg } = s

/-- O60. The OAM scan: the first ten entries on the line in OAM order, sorted by X, equal X in OAM order. From 62_ppu.md (R414,
R430), 95_test_vectors.md (SRC7). -/
def Obligations.SpriteSelection : Prop :=
  ∀ (p q : Ppu) (height : Nat) (on : Nat → Prop), q = scanOam p → height = (if p.lcdc.getLsbD 2 then 16 else 8) →
    (∀ i, on i ↔ (oamEntry p.oam i).y.toNat ≤ p.ly.toNat + 16 ∧ p.ly.toNat + 16 < (oamEntry p.oam i).y.toNat + height) →
    q.spriteHeight = height ∧ q.candidates.length ≤ 10 ∧
    q.candidates.Pairwise (fun c d => c.x.toNat < d.x.toNat ∨ (c.x = d.x ∧ c.index < d.index)) ∧
    ∀ c, c ∈ q.candidates ↔ ∃ i < 40, c = oamEntry p.oam i ∧ on i ∧
      ∀ l : List Nat, l.Nodup → (∀ j ∈ l, j < i ∧ on j) → l.length < 10
end

