-- ==== Sys2Proof/Laws/State.lean ====
section
/-! SUPPORT. What each update of the state leaves in each field, the register file's read-after-write laws, and the words' halves. -/

namespace Sys2Proof.Machine

/-! ## Halves of a word -/

@[simp] theorem wordOf_halves (v : Word) : wordOf (hiByte v) (loByte v) = v := by
  unfold wordOf hiByte loByte
  apply BitVec.eq_of_getLsbD_eq
  intro i hi
  simp only [BitVec.getLsbD_append, BitVec.getLsbD_extractLsb']
  by_cases h : i < 8
  · simp [h]
  · have h8 : i - 8 < 8 := by omega
    have e : 8 + (i - 8) = i := by omega
    simp [h, h8, e]

@[simp] theorem hiByte_wordOf (x y : Byte) : hiByte (wordOf x y) = x := by
  unfold wordOf hiByte
  apply BitVec.eq_of_getLsbD_eq
  intro i hi
  simp only [BitVec.getLsbD_append, BitVec.getLsbD_extractLsb']
  have : ¬ (8 + i < 8) := by omega
  simp [hi]

@[simp] theorem loByte_wordOf (x y : Byte) : loByte (wordOf x y) = y := by
  unfold wordOf loByte
  apply BitVec.eq_of_getLsbD_eq
  intro i hi
  simp only [BitVec.getLsbD_append, BitVec.getLsbD_extractLsb']
  simp [hi]

/-! ## The register file -/

@[simp] theorem getR8_setR8_same (r : R8) (v : Byte) (s : State) : getR8 r (setR8 r v s) = v := by cases r <;> rfl

theorem getR8_setR8_other (r r' : R8) (h : r ≠ r') (v : Byte) (s : State) : getR8 r' (setR8 r v s) = getR8 r' s := by
  cases r <;> cases r' <;> first | rfl | exact absurd rfl h

@[simp] theorem getPair_setPair_same (p : R16) (v : Word) (s : State) : getPair p (setPair p v s) = v := by
  cases p <;> simp [getPair, setPair, regBC, regDE, regHL, setHL]

@[simp] theorem regHL_setHL (v : Word) (s : State) : regHL (setHL v s) = v := wordOf_halves v

/-! ## The flags -/

@[simp] theorem flagZ_setFlags (z n h c : Bool) (s : State) : flagZ (setFlags z n h c s) = z := by
  show (flagByte z n h c &&& 0xF0).getLsbD 7 = z
  revert z n h c; decide

@[simp] theorem flagN_setFlags (z n h c : Bool) (s : State) : flagN (setFlags z n h c s) = n := by
  show (flagByte z n h c &&& 0xF0).getLsbD 6 = n
  revert z n h c; decide

@[simp] theorem flagH_setFlags (z n h c : Bool) (s : State) : flagH (setFlags z n h c s) = h := by
  show (flagByte z n h c &&& 0xF0).getLsbD 5 = h
  revert z n h c; decide

@[simp] theorem flagC_setFlags (z n h c : Bool) (s : State) : flagC (setFlags z n h c s) = c := by
  show (flagByte z n h c &&& 0xF0).getLsbD 4 = c
  revert z n h c; decide

/-- Every write of F leaves its low nibble 0 (10_state.md R23). -/
theorem setF_low_nibble (v : Byte) (s : State) : (setF v s).f &&& 0x0F = 0 := by
  show v &&& 0xF0 &&& 0x0F = 0
  rw [BitVec.and_assoc]
  simp

/-! ## Registers -/

@[simp] theorem setF_a (v : Byte) (s : State) : (setF v s).a = s.a := rfl
@[simp] theorem setF_f (v : Byte) (s : State) : (setF v s).f = v &&& 0xF0 := rfl
@[simp] theorem setF_b (v : Byte) (s : State) : (setF v s).b = s.b := rfl
@[simp] theorem setF_c (v : Byte) (s : State) : (setF v s).c = s.c := rfl
@[simp] theorem setF_d (v : Byte) (s : State) : (setF v s).d = s.d := rfl
@[simp] theorem setF_e (v : Byte) (s : State) : (setF v s).e = s.e := rfl
@[simp] theorem setF_h (v : Byte) (s : State) : (setF v s).h = s.h := rfl
@[simp] theorem setF_l (v : Byte) (s : State) : (setF v s).l = s.l := rfl
@[simp] theorem setF_sp (v : Byte) (s : State) : (setF v s).sp = s.sp := rfl
@[simp] theorem setF_pc (v : Byte) (s : State) : (setF v s).pc = s.pc := rfl
@[simp] theorem setF_ime (v : Byte) (s : State) : (setF v s).ime = s.ime := rfl
@[simp] theorem setF_imeEnabling (v : Byte) (s : State) : (setF v s).imeEnabling = s.imeEnabling := rfl
@[simp] theorem setF_halted (v : Byte) (s : State) : (setF v s).halted = s.halted := rfl
@[simp] theorem setF_cyclesLeft (v : Byte) (s : State) : (setF v s).cyclesLeft = s.cyclesLeft := rfl
@[simp] theorem setF_fault (v : Byte) (s : State) : (setF v s).fault = s.fault := rfl
@[simp] theorem setF_ie (v : Byte) (s : State) : (setF v s).ie = s.ie := rfl
@[simp] theorem setF_ifReg (v : Byte) (s : State) : (setF v s).ifReg = s.ifReg := rfl
@[simp] theorem setF_ticks (v : Byte) (s : State) : (setF v s).ticks = s.ticks := rfl
@[simp] theorem setF_wram (v : Byte) (s : State) : (setF v s).wram = s.wram := rfl
@[simp] theorem setF_hram (v : Byte) (s : State) : (setF v s).hram = s.hram := rfl
@[simp] theorem setF_joypSelect (v : Byte) (s : State) : (setF v s).joypSelect = s.joypSelect := rfl
@[simp] theorem setF_buttons (v : Byte) (s : State) : (setF v s).buttons = s.buttons := rfl
@[simp] theorem setF_sb (v : Byte) (s : State) : (setF v s).sb = s.sb := rfl
@[simp] theorem setF_sc (v : Byte) (s : State) : (setF v s).sc = s.sc := rfl
@[simp] theorem setF_timer (v : Byte) (s : State) : (setF v s).timer = s.timer := rfl
@[simp] theorem setF_dma (v : Byte) (s : State) : (setF v s).dma = s.dma := rfl
@[simp] theorem setF_ppu (v : Byte) (s : State) : (setF v s).ppu = s.ppu := rfl
@[simp] theorem setF_cart (v : Byte) (s : State) : (setF v s).cart = s.cart := rfl
@[simp] theorem setF_clockDraws (v : Byte) (s : State) : (setF v s).clockDraws = s.clockDraws := rfl
@[simp] theorem setF_persists (v : Byte) (s : State) : (setF v s).persists = s.persists := rfl
@[simp] theorem setF_saved (v : Byte) (s : State) : (setF v s).saved = s.saved := rfl
@[simp] theorem setHL_a (v : Word) (s : State) : (setHL v s).a = s.a := rfl
@[simp] theorem setHL_f (v : Word) (s : State) : (setHL v s).f = s.f := rfl
@[simp] theorem setHL_b (v : Word) (s : State) : (setHL v s).b = s.b := rfl
@[simp] theorem setHL_c (v : Word) (s : State) : (setHL v s).c = s.c := rfl
@[simp] theorem setHL_d (v : Word) (s : State) : (setHL v s).d = s.d := rfl
@[simp] theorem setHL_e (v : Word) (s : State) : (setHL v s).e = s.e := rfl
@[simp] theorem setHL_h (v : Word) (s : State) : (setHL v s).h = hiByte v := rfl
@[simp] theorem setHL_l (v : Word) (s : State) : (setHL v s).l = loByte v := rfl
@[simp] theorem setHL_sp (v : Word) (s : State) : (setHL v s).sp = s.sp := rfl
@[simp] theorem setHL_pc (v : Word) (s : State) : (setHL v s).pc = s.pc := rfl
@[simp] theorem setHL_ime (v : Word) (s : State) : (setHL v s).ime = s.ime := rfl
@[simp] theorem setHL_imeEnabling (v : Word) (s : State) : (setHL v s).imeEnabling = s.imeEnabling := rfl
@[simp] theorem setHL_halted (v : Word) (s : State) : (setHL v s).halted = s.halted := rfl
@[simp] theorem setHL_cyclesLeft (v : Word) (s : State) : (setHL v s).cyclesLeft = s.cyclesLeft := rfl
@[simp] theorem setHL_fault (v : Word) (s : State) : (setHL v s).fault = s.fault := rfl
@[simp] theorem setHL_ie (v : Word) (s : State) : (setHL v s).ie = s.ie := rfl
@[simp] theorem setHL_ifReg (v : Word) (s : State) : (setHL v s).ifReg = s.ifReg := rfl
@[simp] theorem setHL_ticks (v : Word) (s : State) : (setHL v s).ticks = s.ticks := rfl
@[simp] theorem setHL_wram (v : Word) (s : State) : (setHL v s).wram = s.wram := rfl
@[simp] theorem setHL_hram (v : Word) (s : State) : (setHL v s).hram = s.hram := rfl
@[simp] theorem setHL_joypSelect (v : Word) (s : State) : (setHL v s).joypSelect = s.joypSelect := rfl
@[simp] theorem setHL_buttons (v : Word) (s : State) : (setHL v s).buttons = s.buttons := rfl
@[simp] theorem setHL_sb (v : Word) (s : State) : (setHL v s).sb = s.sb := rfl
@[simp] theorem setHL_sc (v : Word) (s : State) : (setHL v s).sc = s.sc := rfl
@[simp] theorem setHL_timer (v : Word) (s : State) : (setHL v s).timer = s.timer := rfl
@[simp] theorem setHL_dma (v : Word) (s : State) : (setHL v s).dma = s.dma := rfl
@[simp] theorem setHL_ppu (v : Word) (s : State) : (setHL v s).ppu = s.ppu := rfl
@[simp] theorem setHL_cart (v : Word) (s : State) : (setHL v s).cart = s.cart := rfl
@[simp] theorem setHL_clockDraws (v : Word) (s : State) : (setHL v s).clockDraws = s.clockDraws := rfl
@[simp] theorem setHL_persists (v : Word) (s : State) : (setHL v s).persists = s.persists := rfl
@[simp] theorem setHL_saved (v : Word) (s : State) : (setHL v s).saved = s.saved := rfl
@[simp] theorem setR8_f (r : R8) (v : Byte) (s : State) : (setR8 r v s).f = s.f := by cases r <;> rfl
@[simp] theorem setR8_sp (r : R8) (v : Byte) (s : State) : (setR8 r v s).sp = s.sp := by cases r <;> rfl
@[simp] theorem setR8_pc (r : R8) (v : Byte) (s : State) : (setR8 r v s).pc = s.pc := by cases r <;> rfl
@[simp] theorem setR8_ime (r : R8) (v : Byte) (s : State) : (setR8 r v s).ime = s.ime := by cases r <;> rfl
@[simp] theorem setR8_imeEnabling (r : R8) (v : Byte) (s : State) : (setR8 r v s).imeEnabling = s.imeEnabling := by cases r <;> rfl
@[simp] theorem setR8_halted (r : R8) (v : Byte) (s : State) : (setR8 r v s).halted = s.halted := by cases r <;> rfl
@[simp] theorem setR8_cyclesLeft (r : R8) (v : Byte) (s : State) : (setR8 r v s).cyclesLeft = s.cyclesLeft := by cases r <;> rfl
@[simp] theorem setR8_fault (r : R8) (v : Byte) (s : State) : (setR8 r v s).fault = s.fault := by cases r <;> rfl
@[simp] theorem setR8_ie (r : R8) (v : Byte) (s : State) : (setR8 r v s).ie = s.ie := by cases r <;> rfl
@[simp] theorem setR8_ifReg (r : R8) (v : Byte) (s : State) : (setR8 r v s).ifReg = s.ifReg := by cases r <;> rfl
@[simp] theorem setR8_ticks (r : R8) (v : Byte) (s : State) : (setR8 r v s).ticks = s.ticks := by cases r <;> rfl
@[simp] theorem setR8_wram (r : R8) (v : Byte) (s : State) : (setR8 r v s).wram = s.wram := by cases r <;> rfl
@[simp] theorem setR8_hram (r : R8) (v : Byte) (s : State) : (setR8 r v s).hram = s.hram := by cases r <;> rfl
@[simp] theorem setR8_joypSelect (r : R8) (v : Byte) (s : State) : (setR8 r v s).joypSelect = s.joypSelect := by cases r <;> rfl
@[simp] theorem setR8_buttons (r : R8) (v : Byte) (s : State) : (setR8 r v s).buttons = s.buttons := by cases r <;> rfl
@[simp] theorem setR8_sb (r : R8) (v : Byte) (s : State) : (setR8 r v s).sb = s.sb := by cases r <;> rfl
@[simp] theorem setR8_sc (r : R8) (v : Byte) (s : State) : (setR8 r v s).sc = s.sc := by cases r <;> rfl
@[simp] theorem setR8_timer (r : R8) (v : Byte) (s : State) : (setR8 r v s).timer = s.timer := by cases r <;> rfl
@[simp] theorem setR8_dma (r : R8) (v : Byte) (s : State) : (setR8 r v s).dma = s.dma := by cases r <;> rfl
@[simp] theorem setR8_ppu (r : R8) (v : Byte) (s : State) : (setR8 r v s).ppu = s.ppu := by cases r <;> rfl
@[simp] theorem setR8_cart (r : R8) (v : Byte) (s : State) : (setR8 r v s).cart = s.cart := by cases r <;> rfl
@[simp] theorem setR8_clockDraws (r : R8) (v : Byte) (s : State) : (setR8 r v s).clockDraws = s.clockDraws := by cases r <;> rfl
@[simp] theorem setR8_persists (r : R8) (v : Byte) (s : State) : (setR8 r v s).persists = s.persists := by cases r <;> rfl
@[simp] theorem setR8_saved (r : R8) (v : Byte) (s : State) : (setR8 r v s).saved = s.saved := by cases r <;> rfl
@[simp] theorem setPair_a (p : R16) (v : Word) (s : State) : (setPair p v s).a = s.a := by cases p <;> rfl
@[simp] theorem setPair_f (p : R16) (v : Word) (s : State) : (setPair p v s).f = s.f := by cases p <;> rfl
@[simp] theorem setPair_pc (p : R16) (v : Word) (s : State) : (setPair p v s).pc = s.pc := by cases p <;> rfl
@[simp] theorem setPair_ime (p : R16) (v : Word) (s : State) : (setPair p v s).ime = s.ime := by cases p <;> rfl
@[simp] theorem setPair_imeEnabling (p : R16) (v : Word) (s : State) : (setPair p v s).imeEnabling = s.imeEnabling := by cases p <;> rfl
@[simp] theorem setPair_halted (p : R16) (v : Word) (s : State) : (setPair p v s).halted = s.halted := by cases p <;> rfl
@[simp] theorem setPair_cyclesLeft (p : R16) (v : Word) (s : State) : (setPair p v s).cyclesLeft = s.cyclesLeft := by cases p <;> rfl
@[simp] theorem setPair_fault (p : R16) (v : Word) (s : State) : (setPair p v s).fault = s.fault := by cases p <;> rfl
@[simp] theorem setPair_ie (p : R16) (v : Word) (s : State) : (setPair p v s).ie = s.ie := by cases p <;> rfl
@[simp] theorem setPair_ifReg (p : R16) (v : Word) (s : State) : (setPair p v s).ifReg = s.ifReg := by cases p <;> rfl
@[simp] theorem setPair_ticks (p : R16) (v : Word) (s : State) : (setPair p v s).ticks = s.ticks := by cases p <;> rfl
@[simp] theorem setPair_wram (p : R16) (v : Word) (s : State) : (setPair p v s).wram = s.wram := by cases p <;> rfl
@[simp] theorem setPair_hram (p : R16) (v : Word) (s : State) : (setPair p v s).hram = s.hram := by cases p <;> rfl
@[simp] theorem setPair_joypSelect (p : R16) (v : Word) (s : State) : (setPair p v s).joypSelect = s.joypSelect := by cases p <;> rfl
@[simp] theorem setPair_buttons (p : R16) (v : Word) (s : State) : (setPair p v s).buttons = s.buttons := by cases p <;> rfl
@[simp] theorem setPair_sb (p : R16) (v : Word) (s : State) : (setPair p v s).sb = s.sb := by cases p <;> rfl
@[simp] theorem setPair_sc (p : R16) (v : Word) (s : State) : (setPair p v s).sc = s.sc := by cases p <;> rfl
@[simp] theorem setPair_timer (p : R16) (v : Word) (s : State) : (setPair p v s).timer = s.timer := by cases p <;> rfl
@[simp] theorem setPair_dma (p : R16) (v : Word) (s : State) : (setPair p v s).dma = s.dma := by cases p <;> rfl
@[simp] theorem setPair_ppu (p : R16) (v : Word) (s : State) : (setPair p v s).ppu = s.ppu := by cases p <;> rfl
@[simp] theorem setPair_cart (p : R16) (v : Word) (s : State) : (setPair p v s).cart = s.cart := by cases p <;> rfl
@[simp] theorem setPair_clockDraws (p : R16) (v : Word) (s : State) : (setPair p v s).clockDraws = s.clockDraws := by cases p <;> rfl
@[simp] theorem setPair_persists (p : R16) (v : Word) (s : State) : (setPair p v s).persists = s.persists := by cases p <;> rfl
@[simp] theorem setPair_saved (p : R16) (v : Word) (s : State) : (setPair p v s).saved = s.saved := by cases p <;> rfl
@[simp] theorem setStk_sp (p : R16Stk) (v : Word) (s : State) : (setStk p v s).sp = s.sp := by cases p <;> rfl
@[simp] theorem setStk_pc (p : R16Stk) (v : Word) (s : State) : (setStk p v s).pc = s.pc := by cases p <;> rfl
@[simp] theorem setStk_ime (p : R16Stk) (v : Word) (s : State) : (setStk p v s).ime = s.ime := by cases p <;> rfl
@[simp] theorem setStk_imeEnabling (p : R16Stk) (v : Word) (s : State) : (setStk p v s).imeEnabling = s.imeEnabling := by cases p <;> rfl
@[simp] theorem setStk_halted (p : R16Stk) (v : Word) (s : State) : (setStk p v s).halted = s.halted := by cases p <;> rfl
@[simp] theorem setStk_cyclesLeft (p : R16Stk) (v : Word) (s : State) : (setStk p v s).cyclesLeft = s.cyclesLeft := by cases p <;> rfl
@[simp] theorem setStk_fault (p : R16Stk) (v : Word) (s : State) : (setStk p v s).fault = s.fault := by cases p <;> rfl
@[simp] theorem setStk_ie (p : R16Stk) (v : Word) (s : State) : (setStk p v s).ie = s.ie := by cases p <;> rfl
@[simp] theorem setStk_ifReg (p : R16Stk) (v : Word) (s : State) : (setStk p v s).ifReg = s.ifReg := by cases p <;> rfl
@[simp] theorem setStk_ticks (p : R16Stk) (v : Word) (s : State) : (setStk p v s).ticks = s.ticks := by cases p <;> rfl
@[simp] theorem setStk_wram (p : R16Stk) (v : Word) (s : State) : (setStk p v s).wram = s.wram := by cases p <;> rfl
@[simp] theorem setStk_hram (p : R16Stk) (v : Word) (s : State) : (setStk p v s).hram = s.hram := by cases p <;> rfl
@[simp] theorem setStk_joypSelect (p : R16Stk) (v : Word) (s : State) : (setStk p v s).joypSelect = s.joypSelect := by cases p <;> rfl
@[simp] theorem setStk_buttons (p : R16Stk) (v : Word) (s : State) : (setStk p v s).buttons = s.buttons := by cases p <;> rfl
@[simp] theorem setStk_sb (p : R16Stk) (v : Word) (s : State) : (setStk p v s).sb = s.sb := by cases p <;> rfl
@[simp] theorem setStk_sc (p : R16Stk) (v : Word) (s : State) : (setStk p v s).sc = s.sc := by cases p <;> rfl
@[simp] theorem setStk_timer (p : R16Stk) (v : Word) (s : State) : (setStk p v s).timer = s.timer := by cases p <;> rfl
@[simp] theorem setStk_dma (p : R16Stk) (v : Word) (s : State) : (setStk p v s).dma = s.dma := by cases p <;> rfl
@[simp] theorem setStk_ppu (p : R16Stk) (v : Word) (s : State) : (setStk p v s).ppu = s.ppu := by cases p <;> rfl
@[simp] theorem setStk_cart (p : R16Stk) (v : Word) (s : State) : (setStk p v s).cart = s.cart := by cases p <;> rfl
@[simp] theorem setStk_clockDraws (p : R16Stk) (v : Word) (s : State) : (setStk p v s).clockDraws = s.clockDraws := by cases p <;> rfl
@[simp] theorem setStk_persists (p : R16Stk) (v : Word) (s : State) : (setStk p v s).persists = s.persists := by cases p <;> rfl
@[simp] theorem setStk_saved (p : R16Stk) (v : Word) (s : State) : (setStk p v s).saved = s.saved := by cases p <;> rfl

/-! ## Flags -/

@[simp] theorem setFlags_a (z n h c : Bool) (s : State) : (setFlags z n h c s).a = s.a := rfl
@[simp] theorem setFlags_f (z n h c : Bool) (s : State) : (setFlags z n h c s).f = flagByte z n h c &&& 0xF0 := rfl
@[simp] theorem setFlags_b (z n h c : Bool) (s : State) : (setFlags z n h c s).b = s.b := rfl
@[simp] theorem setFlags_c (z n h c : Bool) (s : State) : (setFlags z n h c s).c = s.c := rfl
@[simp] theorem setFlags_d (z n h c : Bool) (s : State) : (setFlags z n h c s).d = s.d := rfl
@[simp] theorem setFlags_e (z n h c : Bool) (s : State) : (setFlags z n h c s).e = s.e := rfl
@[simp] theorem setFlags_h (z n h c : Bool) (s : State) : (setFlags z n h c s).h = s.h := rfl
@[simp] theorem setFlags_l (z n h c : Bool) (s : State) : (setFlags z n h c s).l = s.l := rfl
@[simp] theorem setFlags_sp (z n h c : Bool) (s : State) : (setFlags z n h c s).sp = s.sp := rfl
@[simp] theorem setFlags_pc (z n h c : Bool) (s : State) : (setFlags z n h c s).pc = s.pc := rfl
@[simp] theorem setFlags_ime (z n h c : Bool) (s : State) : (setFlags z n h c s).ime = s.ime := rfl
@[simp] theorem setFlags_imeEnabling (z n h c : Bool) (s : State) : (setFlags z n h c s).imeEnabling = s.imeEnabling := rfl
@[simp] theorem setFlags_halted (z n h c : Bool) (s : State) : (setFlags z n h c s).halted = s.halted := rfl
@[simp] theorem setFlags_cyclesLeft (z n h c : Bool) (s : State) : (setFlags z n h c s).cyclesLeft = s.cyclesLeft := rfl
@[simp] theorem setFlags_fault (z n h c : Bool) (s : State) : (setFlags z n h c s).fault = s.fault := rfl
@[simp] theorem setFlags_ie (z n h c : Bool) (s : State) : (setFlags z n h c s).ie = s.ie := rfl
@[simp] theorem setFlags_ifReg (z n h c : Bool) (s : State) : (setFlags z n h c s).ifReg = s.ifReg := rfl
@[simp] theorem setFlags_ticks (z n h c : Bool) (s : State) : (setFlags z n h c s).ticks = s.ticks := rfl
@[simp] theorem setFlags_wram (z n h c : Bool) (s : State) : (setFlags z n h c s).wram = s.wram := rfl
@[simp] theorem setFlags_hram (z n h c : Bool) (s : State) : (setFlags z n h c s).hram = s.hram := rfl
@[simp] theorem setFlags_joypSelect (z n h c : Bool) (s : State) : (setFlags z n h c s).joypSelect = s.joypSelect := rfl
@[simp] theorem setFlags_buttons (z n h c : Bool) (s : State) : (setFlags z n h c s).buttons = s.buttons := rfl
@[simp] theorem setFlags_sb (z n h c : Bool) (s : State) : (setFlags z n h c s).sb = s.sb := rfl
@[simp] theorem setFlags_sc (z n h c : Bool) (s : State) : (setFlags z n h c s).sc = s.sc := rfl
@[simp] theorem setFlags_timer (z n h c : Bool) (s : State) : (setFlags z n h c s).timer = s.timer := rfl
@[simp] theorem setFlags_dma (z n h c : Bool) (s : State) : (setFlags z n h c s).dma = s.dma := rfl
@[simp] theorem setFlags_ppu (z n h c : Bool) (s : State) : (setFlags z n h c s).ppu = s.ppu := rfl
@[simp] theorem setFlags_cart (z n h c : Bool) (s : State) : (setFlags z n h c s).cart = s.cart := rfl
@[simp] theorem setFlags_clockDraws (z n h c : Bool) (s : State) : (setFlags z n h c s).clockDraws = s.clockDraws := rfl
@[simp] theorem setFlags_persists (z n h c : Bool) (s : State) : (setFlags z n h c s).persists = s.persists := rfl
@[simp] theorem setFlags_saved (z n h c : Bool) (s : State) : (setFlags z n h c s).saved = s.saved := rfl
@[simp] theorem setOut_a (o : AluOut) (s : State) : (setOut o s).a = s.a := rfl
@[simp] theorem setOut_f (o : AluOut) (s : State) : (setOut o s).f = flagByte o.z o.n o.h o.c &&& 0xF0 := rfl
@[simp] theorem setOut_b (o : AluOut) (s : State) : (setOut o s).b = s.b := rfl
@[simp] theorem setOut_c (o : AluOut) (s : State) : (setOut o s).c = s.c := rfl
@[simp] theorem setOut_d (o : AluOut) (s : State) : (setOut o s).d = s.d := rfl
@[simp] theorem setOut_e (o : AluOut) (s : State) : (setOut o s).e = s.e := rfl
@[simp] theorem setOut_h (o : AluOut) (s : State) : (setOut o s).h = s.h := rfl
@[simp] theorem setOut_l (o : AluOut) (s : State) : (setOut o s).l = s.l := rfl
@[simp] theorem setOut_sp (o : AluOut) (s : State) : (setOut o s).sp = s.sp := rfl
@[simp] theorem setOut_pc (o : AluOut) (s : State) : (setOut o s).pc = s.pc := rfl
@[simp] theorem setOut_ime (o : AluOut) (s : State) : (setOut o s).ime = s.ime := rfl
@[simp] theorem setOut_imeEnabling (o : AluOut) (s : State) : (setOut o s).imeEnabling = s.imeEnabling := rfl
@[simp] theorem setOut_halted (o : AluOut) (s : State) : (setOut o s).halted = s.halted := rfl
@[simp] theorem setOut_cyclesLeft (o : AluOut) (s : State) : (setOut o s).cyclesLeft = s.cyclesLeft := rfl
@[simp] theorem setOut_fault (o : AluOut) (s : State) : (setOut o s).fault = s.fault := rfl
@[simp] theorem setOut_ie (o : AluOut) (s : State) : (setOut o s).ie = s.ie := rfl
@[simp] theorem setOut_ifReg (o : AluOut) (s : State) : (setOut o s).ifReg = s.ifReg := rfl
@[simp] theorem setOut_ticks (o : AluOut) (s : State) : (setOut o s).ticks = s.ticks := rfl
@[simp] theorem setOut_wram (o : AluOut) (s : State) : (setOut o s).wram = s.wram := rfl
@[simp] theorem setOut_hram (o : AluOut) (s : State) : (setOut o s).hram = s.hram := rfl
@[simp] theorem setOut_joypSelect (o : AluOut) (s : State) : (setOut o s).joypSelect = s.joypSelect := rfl
@[simp] theorem setOut_buttons (o : AluOut) (s : State) : (setOut o s).buttons = s.buttons := rfl
@[simp] theorem setOut_sb (o : AluOut) (s : State) : (setOut o s).sb = s.sb := rfl
@[simp] theorem setOut_sc (o : AluOut) (s : State) : (setOut o s).sc = s.sc := rfl
@[simp] theorem setOut_timer (o : AluOut) (s : State) : (setOut o s).timer = s.timer := rfl
@[simp] theorem setOut_dma (o : AluOut) (s : State) : (setOut o s).dma = s.dma := rfl
@[simp] theorem setOut_ppu (o : AluOut) (s : State) : (setOut o s).ppu = s.ppu := rfl
@[simp] theorem setOut_cart (o : AluOut) (s : State) : (setOut o s).cart = s.cart := rfl
@[simp] theorem setOut_clockDraws (o : AluOut) (s : State) : (setOut o s).clockDraws = s.clockDraws := rfl
@[simp] theorem setOut_persists (o : AluOut) (s : State) : (setOut o s).persists = s.persists := rfl
@[simp] theorem setOut_saved (o : AluOut) (s : State) : (setOut o s).saved = s.saved := rfl

/-! ## Program counter, stack pointer, the end of an instruction -/

@[simp] theorem skip_a (n : Nat) (s : State) : (skip n s).a = s.a := rfl
@[simp] theorem skip_f (n : Nat) (s : State) : (skip n s).f = s.f := rfl
@[simp] theorem skip_b (n : Nat) (s : State) : (skip n s).b = s.b := rfl
@[simp] theorem skip_c (n : Nat) (s : State) : (skip n s).c = s.c := rfl
@[simp] theorem skip_d (n : Nat) (s : State) : (skip n s).d = s.d := rfl
@[simp] theorem skip_e (n : Nat) (s : State) : (skip n s).e = s.e := rfl
@[simp] theorem skip_h (n : Nat) (s : State) : (skip n s).h = s.h := rfl
@[simp] theorem skip_l (n : Nat) (s : State) : (skip n s).l = s.l := rfl
@[simp] theorem skip_sp (n : Nat) (s : State) : (skip n s).sp = s.sp := rfl
@[simp] theorem skip_pc (n : Nat) (s : State) : (skip n s).pc = s.pc + BitVec.ofNat 16 n := rfl
@[simp] theorem skip_ime (n : Nat) (s : State) : (skip n s).ime = s.ime := rfl
@[simp] theorem skip_imeEnabling (n : Nat) (s : State) : (skip n s).imeEnabling = s.imeEnabling := rfl
@[simp] theorem skip_halted (n : Nat) (s : State) : (skip n s).halted = s.halted := rfl
@[simp] theorem skip_cyclesLeft (n : Nat) (s : State) : (skip n s).cyclesLeft = s.cyclesLeft := rfl
@[simp] theorem skip_fault (n : Nat) (s : State) : (skip n s).fault = s.fault := rfl
@[simp] theorem skip_ie (n : Nat) (s : State) : (skip n s).ie = s.ie := rfl
@[simp] theorem skip_ifReg (n : Nat) (s : State) : (skip n s).ifReg = s.ifReg := rfl
@[simp] theorem skip_ticks (n : Nat) (s : State) : (skip n s).ticks = s.ticks := rfl
@[simp] theorem skip_wram (n : Nat) (s : State) : (skip n s).wram = s.wram := rfl
@[simp] theorem skip_hram (n : Nat) (s : State) : (skip n s).hram = s.hram := rfl
@[simp] theorem skip_joypSelect (n : Nat) (s : State) : (skip n s).joypSelect = s.joypSelect := rfl
@[simp] theorem skip_buttons (n : Nat) (s : State) : (skip n s).buttons = s.buttons := rfl
@[simp] theorem skip_sb (n : Nat) (s : State) : (skip n s).sb = s.sb := rfl
@[simp] theorem skip_sc (n : Nat) (s : State) : (skip n s).sc = s.sc := rfl
@[simp] theorem skip_timer (n : Nat) (s : State) : (skip n s).timer = s.timer := rfl
@[simp] theorem skip_dma (n : Nat) (s : State) : (skip n s).dma = s.dma := rfl
@[simp] theorem skip_ppu (n : Nat) (s : State) : (skip n s).ppu = s.ppu := rfl
@[simp] theorem skip_cart (n : Nat) (s : State) : (skip n s).cart = s.cart := rfl
@[simp] theorem skip_clockDraws (n : Nat) (s : State) : (skip n s).clockDraws = s.clockDraws := rfl
@[simp] theorem skip_persists (n : Nat) (s : State) : (skip n s).persists = s.persists := rfl
@[simp] theorem skip_saved (n : Nat) (s : State) : (skip n s).saved = s.saved := rfl
@[simp] theorem popState_a (s : State) : (popState s).a = s.a := rfl
@[simp] theorem popState_f (s : State) : (popState s).f = s.f := rfl
@[simp] theorem popState_b (s : State) : (popState s).b = s.b := rfl
@[simp] theorem popState_c (s : State) : (popState s).c = s.c := rfl
@[simp] theorem popState_d (s : State) : (popState s).d = s.d := rfl
@[simp] theorem popState_e (s : State) : (popState s).e = s.e := rfl
@[simp] theorem popState_h (s : State) : (popState s).h = s.h := rfl
@[simp] theorem popState_l (s : State) : (popState s).l = s.l := rfl
@[simp] theorem popState_sp (s : State) : (popState s).sp = s.sp + 2 := rfl
@[simp] theorem popState_pc (s : State) : (popState s).pc = s.pc := rfl
@[simp] theorem popState_ime (s : State) : (popState s).ime = s.ime := rfl
@[simp] theorem popState_imeEnabling (s : State) : (popState s).imeEnabling = s.imeEnabling := rfl
@[simp] theorem popState_halted (s : State) : (popState s).halted = s.halted := rfl
@[simp] theorem popState_cyclesLeft (s : State) : (popState s).cyclesLeft = s.cyclesLeft := rfl
@[simp] theorem popState_fault (s : State) : (popState s).fault = s.fault := rfl
@[simp] theorem popState_ie (s : State) : (popState s).ie = s.ie := rfl
@[simp] theorem popState_ifReg (s : State) : (popState s).ifReg = s.ifReg := rfl
@[simp] theorem popState_ticks (s : State) : (popState s).ticks = s.ticks := rfl
@[simp] theorem popState_wram (s : State) : (popState s).wram = s.wram := rfl
@[simp] theorem popState_hram (s : State) : (popState s).hram = s.hram := rfl
@[simp] theorem popState_joypSelect (s : State) : (popState s).joypSelect = s.joypSelect := rfl
@[simp] theorem popState_buttons (s : State) : (popState s).buttons = s.buttons := rfl
@[simp] theorem popState_sb (s : State) : (popState s).sb = s.sb := rfl
@[simp] theorem popState_sc (s : State) : (popState s).sc = s.sc := rfl
@[simp] theorem popState_timer (s : State) : (popState s).timer = s.timer := rfl
@[simp] theorem popState_dma (s : State) : (popState s).dma = s.dma := rfl
@[simp] theorem popState_ppu (s : State) : (popState s).ppu = s.ppu := rfl
@[simp] theorem popState_cart (s : State) : (popState s).cart = s.cart := rfl
@[simp] theorem popState_clockDraws (s : State) : (popState s).clockDraws = s.clockDraws := rfl
@[simp] theorem popState_persists (s : State) : (popState s).persists = s.persists := rfl
@[simp] theorem popState_saved (s : State) : (popState s).saved = s.saved := rfl
@[simp] theorem raiseIllegal_a (op : Byte) (s : State) : (raiseIllegal op s).a = s.a := rfl
@[simp] theorem raiseIllegal_f (op : Byte) (s : State) : (raiseIllegal op s).f = s.f := rfl
@[simp] theorem raiseIllegal_b (op : Byte) (s : State) : (raiseIllegal op s).b = s.b := rfl
@[simp] theorem raiseIllegal_c (op : Byte) (s : State) : (raiseIllegal op s).c = s.c := rfl
@[simp] theorem raiseIllegal_d (op : Byte) (s : State) : (raiseIllegal op s).d = s.d := rfl
@[simp] theorem raiseIllegal_e (op : Byte) (s : State) : (raiseIllegal op s).e = s.e := rfl
@[simp] theorem raiseIllegal_h (op : Byte) (s : State) : (raiseIllegal op s).h = s.h := rfl
@[simp] theorem raiseIllegal_l (op : Byte) (s : State) : (raiseIllegal op s).l = s.l := rfl
@[simp] theorem raiseIllegal_sp (op : Byte) (s : State) : (raiseIllegal op s).sp = s.sp := rfl
@[simp] theorem raiseIllegal_pc (op : Byte) (s : State) : (raiseIllegal op s).pc = s.pc := rfl
@[simp] theorem raiseIllegal_ime (op : Byte) (s : State) : (raiseIllegal op s).ime = s.ime := rfl
@[simp] theorem raiseIllegal_imeEnabling (op : Byte) (s : State) : (raiseIllegal op s).imeEnabling = s.imeEnabling := rfl
@[simp] theorem raiseIllegal_halted (op : Byte) (s : State) : (raiseIllegal op s).halted = s.halted := rfl
@[simp] theorem raiseIllegal_cyclesLeft (op : Byte) (s : State) : (raiseIllegal op s).cyclesLeft = s.cyclesLeft := rfl
@[simp] theorem raiseIllegal_fault (op : Byte) (s : State) : (raiseIllegal op s).fault = some (.illegalOpcode op) := rfl
@[simp] theorem raiseIllegal_ie (op : Byte) (s : State) : (raiseIllegal op s).ie = s.ie := rfl
@[simp] theorem raiseIllegal_ifReg (op : Byte) (s : State) : (raiseIllegal op s).ifReg = s.ifReg := rfl
@[simp] theorem raiseIllegal_ticks (op : Byte) (s : State) : (raiseIllegal op s).ticks = s.ticks := rfl
@[simp] theorem raiseIllegal_wram (op : Byte) (s : State) : (raiseIllegal op s).wram = s.wram := rfl
@[simp] theorem raiseIllegal_hram (op : Byte) (s : State) : (raiseIllegal op s).hram = s.hram := rfl
@[simp] theorem raiseIllegal_joypSelect (op : Byte) (s : State) : (raiseIllegal op s).joypSelect = s.joypSelect := rfl
@[simp] theorem raiseIllegal_buttons (op : Byte) (s : State) : (raiseIllegal op s).buttons = s.buttons := rfl
@[simp] theorem raiseIllegal_sb (op : Byte) (s : State) : (raiseIllegal op s).sb = s.sb := rfl
@[simp] theorem raiseIllegal_sc (op : Byte) (s : State) : (raiseIllegal op s).sc = s.sc := rfl
@[simp] theorem raiseIllegal_timer (op : Byte) (s : State) : (raiseIllegal op s).timer = s.timer := rfl
@[simp] theorem raiseIllegal_dma (op : Byte) (s : State) : (raiseIllegal op s).dma = s.dma := rfl
@[simp] theorem raiseIllegal_ppu (op : Byte) (s : State) : (raiseIllegal op s).ppu = s.ppu := rfl
@[simp] theorem raiseIllegal_cart (op : Byte) (s : State) : (raiseIllegal op s).cart = s.cart := rfl
@[simp] theorem raiseIllegal_clockDraws (op : Byte) (s : State) : (raiseIllegal op s).clockDraws = s.clockDraws := rfl
@[simp] theorem raiseIllegal_persists (op : Byte) (s : State) : (raiseIllegal op s).persists = s.persists := rfl
@[simp] theorem raiseIllegal_saved (op : Byte) (s : State) : (raiseIllegal op s).saved = s.saved := rfl

/-! ## The CPU step and the clock -/

@[simp] theorem burn_a (s : State) : (burn s).a = s.a := rfl
@[simp] theorem burn_f (s : State) : (burn s).f = s.f := rfl
@[simp] theorem burn_b (s : State) : (burn s).b = s.b := rfl
@[simp] theorem burn_c (s : State) : (burn s).c = s.c := rfl
@[simp] theorem burn_d (s : State) : (burn s).d = s.d := rfl
@[simp] theorem burn_e (s : State) : (burn s).e = s.e := rfl
@[simp] theorem burn_h (s : State) : (burn s).h = s.h := rfl
@[simp] theorem burn_l (s : State) : (burn s).l = s.l := rfl
@[simp] theorem burn_sp (s : State) : (burn s).sp = s.sp := rfl
@[simp] theorem burn_pc (s : State) : (burn s).pc = s.pc := rfl
@[simp] theorem burn_ime (s : State) : (burn s).ime = s.ime := rfl
@[simp] theorem burn_imeEnabling (s : State) : (burn s).imeEnabling = s.imeEnabling := rfl
@[simp] theorem burn_halted (s : State) : (burn s).halted = s.halted := rfl
@[simp] theorem burn_cyclesLeft (s : State) : (burn s).cyclesLeft = s.cyclesLeft - 1 := rfl
@[simp] theorem burn_fault (s : State) : (burn s).fault = s.fault := rfl
@[simp] theorem burn_ie (s : State) : (burn s).ie = s.ie := rfl
@[simp] theorem burn_ifReg (s : State) : (burn s).ifReg = s.ifReg := rfl
@[simp] theorem burn_ticks (s : State) : (burn s).ticks = s.ticks := rfl
@[simp] theorem burn_wram (s : State) : (burn s).wram = s.wram := rfl
@[simp] theorem burn_hram (s : State) : (burn s).hram = s.hram := rfl
@[simp] theorem burn_joypSelect (s : State) : (burn s).joypSelect = s.joypSelect := rfl
@[simp] theorem burn_buttons (s : State) : (burn s).buttons = s.buttons := rfl
@[simp] theorem burn_sb (s : State) : (burn s).sb = s.sb := rfl
@[simp] theorem burn_sc (s : State) : (burn s).sc = s.sc := rfl
@[simp] theorem burn_timer (s : State) : (burn s).timer = s.timer := rfl
@[simp] theorem burn_dma (s : State) : (burn s).dma = s.dma := rfl
@[simp] theorem burn_ppu (s : State) : (burn s).ppu = s.ppu := rfl
@[simp] theorem burn_cart (s : State) : (burn s).cart = s.cart := rfl
@[simp] theorem burn_clockDraws (s : State) : (burn s).clockDraws = s.clockDraws := rfl
@[simp] theorem burn_persists (s : State) : (burn s).persists = s.persists := rfl
@[simp] theorem burn_saved (s : State) : (burn s).saved = s.saved := rfl
@[simp] theorem countTick_a (s : State) : (countTick s).a = s.a := rfl
@[simp] theorem countTick_f (s : State) : (countTick s).f = s.f := rfl
@[simp] theorem countTick_b (s : State) : (countTick s).b = s.b := rfl
@[simp] theorem countTick_c (s : State) : (countTick s).c = s.c := rfl
@[simp] theorem countTick_d (s : State) : (countTick s).d = s.d := rfl
@[simp] theorem countTick_e (s : State) : (countTick s).e = s.e := rfl
@[simp] theorem countTick_h (s : State) : (countTick s).h = s.h := rfl
@[simp] theorem countTick_l (s : State) : (countTick s).l = s.l := rfl
@[simp] theorem countTick_sp (s : State) : (countTick s).sp = s.sp := rfl
@[simp] theorem countTick_pc (s : State) : (countTick s).pc = s.pc := rfl
@[simp] theorem countTick_ime (s : State) : (countTick s).ime = s.ime := rfl
@[simp] theorem countTick_imeEnabling (s : State) : (countTick s).imeEnabling = s.imeEnabling := rfl
@[simp] theorem countTick_halted (s : State) : (countTick s).halted = s.halted := rfl
@[simp] theorem countTick_cyclesLeft (s : State) : (countTick s).cyclesLeft = s.cyclesLeft := rfl
@[simp] theorem countTick_fault (s : State) : (countTick s).fault = s.fault := rfl
@[simp] theorem countTick_ie (s : State) : (countTick s).ie = s.ie := rfl
@[simp] theorem countTick_ifReg (s : State) : (countTick s).ifReg = s.ifReg := rfl
@[simp] theorem countTick_ticks (s : State) : (countTick s).ticks = s.ticks + 1 := rfl
@[simp] theorem countTick_wram (s : State) : (countTick s).wram = s.wram := rfl
@[simp] theorem countTick_hram (s : State) : (countTick s).hram = s.hram := rfl
@[simp] theorem countTick_joypSelect (s : State) : (countTick s).joypSelect = s.joypSelect := rfl
@[simp] theorem countTick_buttons (s : State) : (countTick s).buttons = s.buttons := rfl
@[simp] theorem countTick_sb (s : State) : (countTick s).sb = s.sb := rfl
@[simp] theorem countTick_sc (s : State) : (countTick s).sc = s.sc := rfl
@[simp] theorem countTick_timer (s : State) : (countTick s).timer = s.timer := rfl
@[simp] theorem countTick_dma (s : State) : (countTick s).dma = s.dma := rfl
@[simp] theorem countTick_ppu (s : State) : (countTick s).ppu = s.ppu := rfl
@[simp] theorem countTick_cart (s : State) : (countTick s).cart = s.cart := rfl
@[simp] theorem countTick_clockDraws (s : State) : (countTick s).clockDraws = s.clockDraws := rfl
@[simp] theorem countTick_persists (s : State) : (countTick s).persists = s.persists := rfl
@[simp] theorem countTick_saved (s : State) : (countTick s).saved = s.saved := rfl
@[simp] theorem wake_a (s : State) : (wake s).a = s.a := by unfold wake; split <;> rfl
@[simp] theorem wake_f (s : State) : (wake s).f = s.f := by unfold wake; split <;> rfl
@[simp] theorem wake_b (s : State) : (wake s).b = s.b := by unfold wake; split <;> rfl
@[simp] theorem wake_c (s : State) : (wake s).c = s.c := by unfold wake; split <;> rfl
@[simp] theorem wake_d (s : State) : (wake s).d = s.d := by unfold wake; split <;> rfl
@[simp] theorem wake_e (s : State) : (wake s).e = s.e := by unfold wake; split <;> rfl
@[simp] theorem wake_h (s : State) : (wake s).h = s.h := by unfold wake; split <;> rfl
@[simp] theorem wake_l (s : State) : (wake s).l = s.l := by unfold wake; split <;> rfl
@[simp] theorem wake_sp (s : State) : (wake s).sp = s.sp := by unfold wake; split <;> rfl
@[simp] theorem wake_pc (s : State) : (wake s).pc = s.pc := by unfold wake; split <;> rfl
@[simp] theorem wake_ime (s : State) : (wake s).ime = s.ime := by unfold wake; split <;> rfl
@[simp] theorem wake_imeEnabling (s : State) : (wake s).imeEnabling = s.imeEnabling := by unfold wake; split <;> rfl
@[simp] theorem wake_cyclesLeft (s : State) : (wake s).cyclesLeft = s.cyclesLeft := by unfold wake; split <;> rfl
@[simp] theorem wake_fault (s : State) : (wake s).fault = s.fault := by unfold wake; split <;> rfl
@[simp] theorem wake_ie (s : State) : (wake s).ie = s.ie := by unfold wake; split <;> rfl
@[simp] theorem wake_ifReg (s : State) : (wake s).ifReg = s.ifReg := by unfold wake; split <;> rfl
@[simp] theorem wake_ticks (s : State) : (wake s).ticks = s.ticks := by unfold wake; split <;> rfl
@[simp] theorem wake_wram (s : State) : (wake s).wram = s.wram := by unfold wake; split <;> rfl
@[simp] theorem wake_hram (s : State) : (wake s).hram = s.hram := by unfold wake; split <;> rfl
@[simp] theorem wake_joypSelect (s : State) : (wake s).joypSelect = s.joypSelect := by unfold wake; split <;> rfl
@[simp] theorem wake_buttons (s : State) : (wake s).buttons = s.buttons := by unfold wake; split <;> rfl
@[simp] theorem wake_sb (s : State) : (wake s).sb = s.sb := by unfold wake; split <;> rfl
@[simp] theorem wake_sc (s : State) : (wake s).sc = s.sc := by unfold wake; split <;> rfl
@[simp] theorem wake_timer (s : State) : (wake s).timer = s.timer := by unfold wake; split <;> rfl
@[simp] theorem wake_dma (s : State) : (wake s).dma = s.dma := by unfold wake; split <;> rfl
@[simp] theorem wake_ppu (s : State) : (wake s).ppu = s.ppu := by unfold wake; split <;> rfl
@[simp] theorem wake_cart (s : State) : (wake s).cart = s.cart := by unfold wake; split <;> rfl
@[simp] theorem wake_clockDraws (s : State) : (wake s).clockDraws = s.clockDraws := by unfold wake; split <;> rfl
@[simp] theorem wake_persists (s : State) : (wake s).persists = s.persists := by unfold wake; split <;> rfl
@[simp] theorem wake_saved (s : State) : (wake s).saved = s.saved := by unfold wake; split <;> rfl
@[simp] theorem promote_a (s : State) : (promote s).a = s.a := by unfold promote; split <;> rfl
@[simp] theorem promote_f (s : State) : (promote s).f = s.f := by unfold promote; split <;> rfl
@[simp] theorem promote_b (s : State) : (promote s).b = s.b := by unfold promote; split <;> rfl
@[simp] theorem promote_c (s : State) : (promote s).c = s.c := by unfold promote; split <;> rfl
@[simp] theorem promote_d (s : State) : (promote s).d = s.d := by unfold promote; split <;> rfl
@[simp] theorem promote_e (s : State) : (promote s).e = s.e := by unfold promote; split <;> rfl
@[simp] theorem promote_h (s : State) : (promote s).h = s.h := by unfold promote; split <;> rfl
@[simp] theorem promote_l (s : State) : (promote s).l = s.l := by unfold promote; split <;> rfl
@[simp] theorem promote_sp (s : State) : (promote s).sp = s.sp := by unfold promote; split <;> rfl
@[simp] theorem promote_pc (s : State) : (promote s).pc = s.pc := by unfold promote; split <;> rfl
@[simp] theorem promote_halted (s : State) : (promote s).halted = s.halted := by unfold promote; split <;> rfl
@[simp] theorem promote_cyclesLeft (s : State) : (promote s).cyclesLeft = s.cyclesLeft := by unfold promote; split <;> rfl
@[simp] theorem promote_fault (s : State) : (promote s).fault = s.fault := by unfold promote; split <;> rfl
@[simp] theorem promote_ie (s : State) : (promote s).ie = s.ie := by unfold promote; split <;> rfl
@[simp] theorem promote_ifReg (s : State) : (promote s).ifReg = s.ifReg := by unfold promote; split <;> rfl
@[simp] theorem promote_ticks (s : State) : (promote s).ticks = s.ticks := by unfold promote; split <;> rfl
@[simp] theorem promote_wram (s : State) : (promote s).wram = s.wram := by unfold promote; split <;> rfl
@[simp] theorem promote_hram (s : State) : (promote s).hram = s.hram := by unfold promote; split <;> rfl
@[simp] theorem promote_joypSelect (s : State) : (promote s).joypSelect = s.joypSelect := by unfold promote; split <;> rfl
@[simp] theorem promote_buttons (s : State) : (promote s).buttons = s.buttons := by unfold promote; split <;> rfl
@[simp] theorem promote_sb (s : State) : (promote s).sb = s.sb := by unfold promote; split <;> rfl
@[simp] theorem promote_sc (s : State) : (promote s).sc = s.sc := by unfold promote; split <;> rfl
@[simp] theorem promote_timer (s : State) : (promote s).timer = s.timer := by unfold promote; split <;> rfl
@[simp] theorem promote_dma (s : State) : (promote s).dma = s.dma := by unfold promote; split <;> rfl
@[simp] theorem promote_ppu (s : State) : (promote s).ppu = s.ppu := by unfold promote; split <;> rfl
@[simp] theorem promote_cart (s : State) : (promote s).cart = s.cart := by unfold promote; split <;> rfl
@[simp] theorem promote_clockDraws (s : State) : (promote s).clockDraws = s.clockDraws := by unfold promote; split <;> rfl
@[simp] theorem promote_persists (s : State) : (promote s).persists = s.persists := by unfold promote; split <;> rfl
@[simp] theorem promote_saved (s : State) : (promote s).saved = s.saved := by unfold promote; split <;> rfl
@[simp] theorem request_a (i : IntSource) (q : Bool) (s : State) : (request i q s).a = s.a := by cases q <;> rfl
@[simp] theorem request_f (i : IntSource) (q : Bool) (s : State) : (request i q s).f = s.f := by cases q <;> rfl
@[simp] theorem request_b (i : IntSource) (q : Bool) (s : State) : (request i q s).b = s.b := by cases q <;> rfl
@[simp] theorem request_c (i : IntSource) (q : Bool) (s : State) : (request i q s).c = s.c := by cases q <;> rfl
@[simp] theorem request_d (i : IntSource) (q : Bool) (s : State) : (request i q s).d = s.d := by cases q <;> rfl
@[simp] theorem request_e (i : IntSource) (q : Bool) (s : State) : (request i q s).e = s.e := by cases q <;> rfl
@[simp] theorem request_h (i : IntSource) (q : Bool) (s : State) : (request i q s).h = s.h := by cases q <;> rfl
@[simp] theorem request_l (i : IntSource) (q : Bool) (s : State) : (request i q s).l = s.l := by cases q <;> rfl
@[simp] theorem request_sp (i : IntSource) (q : Bool) (s : State) : (request i q s).sp = s.sp := by cases q <;> rfl
@[simp] theorem request_pc (i : IntSource) (q : Bool) (s : State) : (request i q s).pc = s.pc := by cases q <;> rfl
@[simp] theorem request_ime (i : IntSource) (q : Bool) (s : State) : (request i q s).ime = s.ime := by cases q <;> rfl
@[simp] theorem request_imeEnabling (i : IntSource) (q : Bool) (s : State) : (request i q s).imeEnabling = s.imeEnabling := by cases q <;> rfl
@[simp] theorem request_halted (i : IntSource) (q : Bool) (s : State) : (request i q s).halted = s.halted := by cases q <;> rfl
@[simp] theorem request_cyclesLeft (i : IntSource) (q : Bool) (s : State) : (request i q s).cyclesLeft = s.cyclesLeft := by cases q <;> rfl
@[simp] theorem request_fault (i : IntSource) (q : Bool) (s : State) : (request i q s).fault = s.fault := by cases q <;> rfl
@[simp] theorem request_ie (i : IntSource) (q : Bool) (s : State) : (request i q s).ie = s.ie := by cases q <;> rfl
@[simp] theorem request_ticks (i : IntSource) (q : Bool) (s : State) : (request i q s).ticks = s.ticks := by cases q <;> rfl
@[simp] theorem request_wram (i : IntSource) (q : Bool) (s : State) : (request i q s).wram = s.wram := by cases q <;> rfl
@[simp] theorem request_hram (i : IntSource) (q : Bool) (s : State) : (request i q s).hram = s.hram := by cases q <;> rfl
@[simp] theorem request_joypSelect (i : IntSource) (q : Bool) (s : State) : (request i q s).joypSelect = s.joypSelect := by cases q <;> rfl
@[simp] theorem request_buttons (i : IntSource) (q : Bool) (s : State) : (request i q s).buttons = s.buttons := by cases q <;> rfl
@[simp] theorem request_sb (i : IntSource) (q : Bool) (s : State) : (request i q s).sb = s.sb := by cases q <;> rfl
@[simp] theorem request_sc (i : IntSource) (q : Bool) (s : State) : (request i q s).sc = s.sc := by cases q <;> rfl
@[simp] theorem request_timer (i : IntSource) (q : Bool) (s : State) : (request i q s).timer = s.timer := by cases q <;> rfl
@[simp] theorem request_dma (i : IntSource) (q : Bool) (s : State) : (request i q s).dma = s.dma := by cases q <;> rfl
@[simp] theorem request_ppu (i : IntSource) (q : Bool) (s : State) : (request i q s).ppu = s.ppu := by cases q <;> rfl
@[simp] theorem request_cart (i : IntSource) (q : Bool) (s : State) : (request i q s).cart = s.cart := by cases q <;> rfl
@[simp] theorem request_clockDraws (i : IntSource) (q : Bool) (s : State) : (request i q s).clockDraws = s.clockDraws := by cases q <;> rfl
@[simp] theorem request_persists (i : IntSource) (q : Bool) (s : State) : (request i q s).persists = s.persists := by cases q <;> rfl
@[simp] theorem request_saved (i : IntSource) (q : Bool) (s : State) : (request i q s).saved = s.saved := by cases q <;> rfl

end Sys2Proof.Machine
end

