-- ==== Sys2Proof/Laws/Store.lean ====
section
/-! SUPPORT. The laws of sparse arrays: a read after a write, the canonical form and the bound kept by every operation, and equal
contents are equal data. -/

namespace Sys2Proof.Machine

variable {w : Nat}

/-! ## Reading -/

@[simp] theorem Store.read_nil (a : Nat) : Store.read ([] : Store w) a = 0 := rfl

theorem Store.read_cons (k : Nat) (v : BitVec w) (m : Store w) (a : Nat) :
    Store.read ((k, v) :: m) a = if k = a then v else Store.read m a := rfl

theorem Store.read_erase (m : Store w) (a b : Nat) :
    Store.read (Store.erase m a) b = if a = b then 0 else Store.read m b := by
  induction m with
  | nil => simp [Store.erase]
  | cons c m ih =>
    obtain ⟨k, v⟩ := c
    by_cases hk : k = a
    · subst hk
      by_cases hb : k = b
      · subst hb; simpa [Store.erase] using ih
      · simp [Store.erase, Store.read_cons, ih, hb]
    · by_cases hb : a = b
      · subst hb; simp [Store.erase, Store.read_cons, ih, hk]
      · simp [Store.erase, Store.read_cons, ih, hk, hb]

theorem Store.read_insert_erase (m : Store w) (a b : Nat) (v : BitVec w) :
    Store.read (Store.insert (Store.erase m a) a v) b = if a = b then v else Store.read m b := by
  induction m with
  | nil => by_cases hb : a = b <;> simp [Store.erase, Store.insert, Store.read_cons, hb]
  | cons c m ih =>
    obtain ⟨k, u⟩ := c
    by_cases hk : k = a
    · subst hk
      by_cases hb : k = b
      · subst hb; simpa [Store.erase] using ih
      · simp [Store.erase, Store.read_cons, ih, hb]
    · simp only [Store.erase, hk, if_false, Store.insert]
      split
      · by_cases hb : a = b
        · simp [Store.read_cons, hb]
        · simp [Store.read_cons, Store.read_erase, hb]
      · by_cases hb : a = b
        · subst hb; simp [Store.read_cons, ih, hk]
        · simp [Store.read_cons, ih, hb]

/-- A read after a write: the written cell gives the value written, every other cell what it gave. -/
theorem Store.read_write (m : Store w) (a b : Nat) (v : BitVec w) :
    Store.read (Store.write m a v) b = if a = b then v else Store.read m b := by
  unfold Store.write
  split
  · rename_i hv; simp [Store.read_erase, hv, unlistedCell]
  · exact Store.read_insert_erase m a b v

@[simp] theorem Store.read_write_same (m : Store w) (a : Nat) (v : BitVec w) :
    Store.read (Store.write m a v) a = v := by simp [Store.read_write]

theorem Store.read_write_other (m : Store w) {a b : Nat} (h : a ≠ b) (v : BitVec w) :
    Store.read (Store.write m a v) b = Store.read m b := by simp [Store.read_write, h]

/-! ## The canonical form -/

/-- The canonical form as a property of every entry and its place. -/
theorem Store.wf_cons (k : Nat) (v : BitVec w) (m : Store w) :
    Store.wf ((k, v) :: m) = true ↔ v ≠ 0 ∧ (∀ c ∈ m, k < c.1) ∧ Store.wf m = true := by
  induction m generalizing k v with
  | nil => simp [Store.wf, unlistedCell]
  | cons c m ih =>
    obtain ⟨k', v'⟩ := c
    simp only [Store.wf, Bool.and_eq_true, bne_iff_ne, ne_eq, decide_eq_true_eq, ih k' v', unlistedCell, List.mem_cons,
      forall_eq_or_imp]
    constructor
    · rintro ⟨hv, hk, hv', hm, hw⟩
      exact ⟨hv, ⟨hk, fun c hc => Nat.lt_trans hk (hm c hc)⟩, hv', hm, hw⟩
    · rintro ⟨hv, ⟨hk, -⟩, hv', hm, hw⟩
      exact ⟨hv, hk, hv', hm, hw⟩

@[simp] theorem Store.wf_nil : Store.wf ([] : Store w) = true := rfl

theorem Store.mem_erase (m : Store w) (a : Nat) (c : Nat × BitVec w) :
    c ∈ Store.erase m a ↔ c ∈ m ∧ c.1 ≠ a := by
  induction m with
  | nil => simp [Store.erase]
  | cons x m ih =>
    obtain ⟨k, v⟩ := x
    by_cases hk : k = a
    · subst hk
      simp only [Store.erase, if_true, ih, List.mem_cons]
      constructor
      · rintro ⟨h, hn⟩; exact ⟨.inr h, hn⟩
      · rintro ⟨rfl | h, hn⟩
        · exact absurd rfl hn
        · exact ⟨h, hn⟩
    · simp only [Store.erase, hk, if_false, List.mem_cons, ih]
      constructor
      · rintro (rfl | ⟨h, hn⟩)
        · exact ⟨.inl rfl, hk⟩
        · exact ⟨.inr h, hn⟩
      · rintro ⟨rfl | h, hn⟩
        · exact .inl rfl
        · exact .inr ⟨h, hn⟩

theorem Store.mem_insert (m : Store w) (a : Nat) (v : BitVec w) (c : Nat × BitVec w) :
    c ∈ Store.insert m a v ↔ c = (a, v) ∨ c ∈ m := by
  induction m with
  | nil => simp [Store.insert]
  | cons x m ih =>
    obtain ⟨k, u⟩ := x
    simp only [Store.insert]
    split
    · simp
    · simp only [List.mem_cons, ih]
      constructor
      · rintro (h | h | h)
        · exact .inr (.inl h)
        · exact .inl h
        · exact .inr (.inr h)
      · rintro (h | h | h)
        · exact .inr (.inl h)
        · exact .inl h
        · exact .inr (.inr h)

theorem Store.wf_erase (m : Store w) (a : Nat) (h : Store.wf m = true) : Store.wf (Store.erase m a) = true := by
  induction m with
  | nil => rfl
  | cons x m ih =>
    obtain ⟨k, v⟩ := x
    obtain ⟨hv, hk, hm⟩ := (Store.wf_cons k v m).1 h
    by_cases hka : k = a
    · simpa [Store.erase, hka] using ih hm
    · simp only [Store.erase, hka, if_false]
      exact (Store.wf_cons _ _ _).2 ⟨hv, fun c hc => hk c ((Store.mem_erase m a c).1 hc).1, ih hm⟩

theorem Store.wf_insert (m : Store w) (a : Nat) (v : BitVec w) (h : Store.wf m = true) (ha : ∀ c ∈ m, c.1 ≠ a) (hv : v ≠ 0) :
    Store.wf (Store.insert m a v) = true := by
  induction m with
  | nil => exact (Store.wf_cons _ _ _).2 ⟨hv, by simp, rfl⟩
  | cons x m ih =>
    obtain ⟨k, u⟩ := x
    obtain ⟨hu, hk, hm⟩ := (Store.wf_cons k u m).1 h
    have hka : k ≠ a := ha (k, u) (by simp)
    simp only [Store.insert]
    split
    · rename_i hlt
      refine (Store.wf_cons _ _ _).2 ⟨hv, ?_, h⟩
      intro c hc
      rcases List.mem_cons.1 hc with rfl | hc
      · exact hlt
      · exact Nat.lt_trans hlt (hk c hc)
    · rename_i hlt
      refine (Store.wf_cons _ _ _).2 ⟨hu, ?_, ih hm fun c hc => ha c (List.mem_cons_of_mem _ hc)⟩
      intro c hc
      rcases (Store.mem_insert m a v c).1 hc with rfl | hc
      · show k < a; omega
      · exact hk c hc

/-- A write keeps the canonical form. -/
theorem Store.wf_write (m : Store w) (a : Nat) (v : BitVec w) (h : Store.wf m = true) : Store.wf (Store.write m a v) = true := by
  unfold Store.write
  split
  · exact Store.wf_erase m a h
  · rename_i hv
    exact Store.wf_insert _ _ _ (Store.wf_erase m a h) (fun c hc => ((Store.mem_erase m a c).1 hc).2) hv

/-! ## The bound -/

theorem Store.below_iff (n : Nat) (m : Store w) : Store.below n m = true ↔ ∀ c ∈ m, c.1 < n := by
  simp [Store.below, List.all_eq_true]

@[simp] theorem Store.below_nil (n : Nat) : Store.below n ([] : Store w) = true := rfl

/-- A write inside the bound keeps it. -/
theorem Store.below_write {n : Nat} (m : Store w) {a : Nat} (v : BitVec w) (h : Store.below n m = true) (ha : a < n) :
    Store.below n (Store.write m a v) = true := by
  rw [Store.below_iff] at *
  intro c hc
  unfold Store.write at hc
  split at hc
  · exact h c ((Store.mem_erase m a c).1 hc).1
  · rcases (Store.mem_insert _ a v c).1 hc with rfl | hc
    · exact ha
    · exact h c ((Store.mem_erase m a c).1 hc).1

/-- A larger bound. -/
theorem Store.below_mono {n n' : Nat} (m : Store w) (h : Store.below n m = true) (hn : n ≤ n') : Store.below n' m = true := by
  rw [Store.below_iff] at *
  exact fun c hc => Nat.lt_of_lt_of_le (h c hc) hn

/-- Every cell of an array after a write is the written one or was there. -/
theorem Store.mem_write (m : Store w) (a : Nat) (v : BitVec w) (c : Nat × BitVec w) (h : c ∈ Store.write m a v) :
    c = (a, v) ∨ c ∈ m := by
  unfold Store.write at h
  split at h
  · exact .inr ((Store.mem_erase m a c).1 h).1
  · rcases (Store.mem_insert _ a v c).1 h with rfl | h
    · exact .inl rfl
    · exact .inr ((Store.mem_erase m a c).1 h).1

/-! ## Equal contents are equal data -/

theorem Store.read_of_lt (m : Store w) (k : Nat) (h : ∀ c ∈ m, k < c.1) : Store.read m k = 0 := by
  induction m with
  | nil => rfl
  | cons x m ih =>
    obtain ⟨j, v⟩ := x
    have hj : k < j := h (j, v) (by simp)
    rw [Store.read_cons, if_neg (by omega)]
    exact ih fun c hc => h c (List.mem_cons_of_mem _ hc)

/-- Two arrays in canonical form with the same contents are the same list. -/
theorem Store.ext_of_wf (m m' : Store w) (h : Store.wf m = true) (h' : Store.wf m' = true)
    (hr : ∀ a, Store.read m a = Store.read m' a) : m = m' := by
  induction m generalizing m' with
  | nil =>
    cases m' with
    | nil => rfl
    | cons x m' =>
      obtain ⟨k, v⟩ := x
      obtain ⟨hv, -, -⟩ := (Store.wf_cons k v m').1 h'
      have := hr k
      simp [Store.read_cons] at this
      exact absurd this.symm hv
  | cons x m ih =>
    obtain ⟨k, v⟩ := x
    obtain ⟨hv, hk, hm⟩ := (Store.wf_cons k v m).1 h
    cases m' with
    | nil =>
      have := hr k
      simp [Store.read_cons] at this
      exact absurd this hv
    | cons x' m' =>
      obtain ⟨k', v'⟩ := x'
      obtain ⟨hv', hk', hm'⟩ := (Store.wf_cons k' v' m').1 h'
      have hkk : k = k' := by
        rcases Nat.lt_trichotomy k k' with hlt | heq | hgt
        · have e := hr k
          rw [Store.read_cons, if_pos rfl, Store.read_cons, if_neg (by omega),
            Store.read_of_lt m' k fun c hc => Nat.lt_trans hlt (hk' c hc)] at e
          exact absurd e hv
        · exact heq
        · have e := hr k'
          rw [Store.read_cons, if_neg (by omega), Store.read_of_lt m k' fun c hc => Nat.lt_trans hgt (hk c hc),
            Store.read_cons, if_pos rfl] at e
          exact absurd e.symm hv'
      subst hkk
      have hvv : v = v' := by have e := hr k; simpa [Store.read_cons] using e
      subst hvv
      congr 1
      refine ih m' hm hm' fun a => ?_
      by_cases hka : k = a
      · subst hka
        rw [Store.read_of_lt m k hk, Store.read_of_lt m' k hk']
      · have e := hr a
        rwa [Store.read_cons, if_neg hka, Store.read_cons, if_neg hka] at e

/-! ## An array from its bytes -/

theorem Memory.mem_ofBytes (bs : List Byte) (k : Nat) (c : Nat × BitVec 8) (h : c ∈ Memory.ofBytes k bs) :
    k ≤ c.1 ∧ c.1 < k + bs.length := by
  induction bs generalizing k with
  | nil => simp [Memory.ofBytes] at h
  | cons v bs ih =>
    simp only [Memory.ofBytes] at h
    split at h
    · have := ih _ h; simp only [List.length_cons]; omega
    · rcases List.mem_cons.1 h with rfl | h
      · simp
      · have := ih _ h; simp only [List.length_cons]; omega

/-- The bytes as an array are in canonical form. -/
theorem Memory.wf_ofBytes (bs : List Byte) (k : Nat) : Memory.wf (Memory.ofBytes k bs) = true := by
  unfold Memory.wf
  induction bs generalizing k with
  | nil => rfl
  | cons v bs ih =>
    simp only [Memory.ofBytes]
    split
    · exact ih _
    · rename_i hv
      refine (Store.wf_cons _ _ _).2 ⟨hv, fun c hc => ?_, ih _⟩
      have := Memory.mem_ofBytes bs (k + 1) c hc
      omega

end Sys2Proof.Machine
end

