-- ==== Sys2Proof/Laws/Bus.lean ====
section
/-! SUPPORT. What a bus write, a push, an interrupt entry and the devices can and cannot change; every memory operation keeps the
canonical form. -/

namespace Sys2Proof.Machine

/-! ## What a bus write leaves alone -/

/-- A bus write changes no register of the CPU, no counter of the clock, no button. -/
structure SameCpu (s t : State) : Prop where
  a : t.a = s.a
  f : t.f = s.f
  b : t.b = s.b
  c : t.c = s.c
  d : t.d = s.d
  e : t.e = s.e
  h : t.h = s.h
  l : t.l = s.l
  sp : t.sp = s.sp
  pc : t.pc = s.pc
  ime : t.ime = s.ime
  imeEnabling : t.imeEnabling = s.imeEnabling
  halted : t.halted = s.halted
  cyclesLeft : t.cyclesLeft = s.cyclesLeft
  fault : t.fault = s.fault
  ticks : t.ticks = s.ticks
  buttons : t.buttons = s.buttons

theorem SameCpu.rfl (s : State) : SameCpu s s := by constructor <;> exact Eq.refl _

theorem cartWriteBus_sameCpu (n : Nat) (v : Byte) (s : State) : SameCpu s (cartWriteBus n v s) := by
  unfold cartWriteBus applyCart; constructor <;> exact Eq.refl _

theorem ioWrite_sameCpu (g : IoReg) (v : Byte) (s : State) : SameCpu s (ioWrite g v s) := by
  cases g <;> (constructor <;> exact Eq.refl _)

theorem busWrite_sameCpu (a : Word) (v : Byte) (s : State) : SameCpu s (busWrite a v s) := by
  unfold busWrite
  split
  case h_1 => exact cartWriteBus_sameCpu _ v s
  case h_3 => exact cartWriteBus_sameCpu _ v s
  case h_8 => split; exact ioWrite_sameCpu _ v s; exact SameCpu.rfl s
  all_goals first | exact SameCpu.rfl s | (split <;> (constructor <;> exact Eq.refl _)) | (constructor <;> exact Eq.refl _)

@[simp] theorem busWrite_a (a : Word) (v : Byte) (s : State) : (busWrite a v s).a = s.a :=
  (busWrite_sameCpu a v s).a
@[simp] theorem busWrite_f (a : Word) (v : Byte) (s : State) : (busWrite a v s).f = s.f :=
  (busWrite_sameCpu a v s).f
@[simp] theorem busWrite_b (a : Word) (v : Byte) (s : State) : (busWrite a v s).b = s.b :=
  (busWrite_sameCpu a v s).b
@[simp] theorem busWrite_c (a : Word) (v : Byte) (s : State) : (busWrite a v s).c = s.c :=
  (busWrite_sameCpu a v s).c
@[simp] theorem busWrite_d (a : Word) (v : Byte) (s : State) : (busWrite a v s).d = s.d :=
  (busWrite_sameCpu a v s).d
@[simp] theorem busWrite_e (a : Word) (v : Byte) (s : State) : (busWrite a v s).e = s.e :=
  (busWrite_sameCpu a v s).e
@[simp] theorem busWrite_h (a : Word) (v : Byte) (s : State) : (busWrite a v s).h = s.h :=
  (busWrite_sameCpu a v s).h
@[simp] theorem busWrite_l (a : Word) (v : Byte) (s : State) : (busWrite a v s).l = s.l :=
  (busWrite_sameCpu a v s).l
@[simp] theorem busWrite_sp (a : Word) (v : Byte) (s : State) : (busWrite a v s).sp = s.sp :=
  (busWrite_sameCpu a v s).sp
@[simp] theorem busWrite_pc (a : Word) (v : Byte) (s : State) : (busWrite a v s).pc = s.pc :=
  (busWrite_sameCpu a v s).pc
@[simp] theorem busWrite_ime (a : Word) (v : Byte) (s : State) : (busWrite a v s).ime = s.ime :=
  (busWrite_sameCpu a v s).ime
@[simp] theorem busWrite_imeEnabling (a : Word) (v : Byte) (s : State) : (busWrite a v s).imeEnabling = s.imeEnabling :=
  (busWrite_sameCpu a v s).imeEnabling
@[simp] theorem busWrite_halted (a : Word) (v : Byte) (s : State) : (busWrite a v s).halted = s.halted :=
  (busWrite_sameCpu a v s).halted
@[simp] theorem busWrite_cyclesLeft (a : Word) (v : Byte) (s : State) : (busWrite a v s).cyclesLeft = s.cyclesLeft :=
  (busWrite_sameCpu a v s).cyclesLeft
@[simp] theorem busWrite_fault (a : Word) (v : Byte) (s : State) : (busWrite a v s).fault = s.fault :=
  (busWrite_sameCpu a v s).fault
@[simp] theorem busWrite_ticks (a : Word) (v : Byte) (s : State) : (busWrite a v s).ticks = s.ticks :=
  (busWrite_sameCpu a v s).ticks
@[simp] theorem busWrite_buttons (a : Word) (v : Byte) (s : State) : (busWrite a v s).buttons = s.buttons :=
  (busWrite_sameCpu a v s).buttons

/-! ## The bus reads and writes do not look at the CPU's registers -/

/-- Two states agree in everything that a bus read looks at. -/
structure SameBus (s t : State) : Prop where
  ie : t.ie = s.ie
  ifReg : t.ifReg = s.ifReg
  wram : t.wram = s.wram
  hram : t.hram = s.hram
  joypSelect : t.joypSelect = s.joypSelect
  buttons : t.buttons = s.buttons
  sb : t.sb = s.sb
  sc : t.sc = s.sc
  timer : t.timer = s.timer
  dma : t.dma = s.dma
  ppu : t.ppu = s.ppu
  cart : t.cart = s.cart

/-- A bus read, and the DMA engine's raw read, give the same in two such states. -/
theorem readWithMask_congr {s t : State} (h : SameBus s t) (masked : Bool) (a : Word) : readWithMask masked a t = readWithMask masked a s := by
  unfold readWithMask
  rw [h.ie, h.wram, h.hram, h.ppu, h.cart]
  cases regionOf a <;> try rfl
  cases ioRegAt (loByte a) with
  | none => rfl
  | some g => cases g <;> simp only [ioRead, h.ifReg, h.joypSelect, h.buttons, h.sb, h.sc, h.timer, h.dma, h.ppu]

theorem busRead_congr {s t : State} (h : SameBus s t) (a : Word) : busRead a t = busRead a s := by
  unfold busRead
  rw [h.dma]
  exact readWithMask_congr h _ a

@[simp] theorem busRead_skip (n : Nat) (s : State) (a : Word) : busRead a (skip n s) = busRead a s :=
  busRead_congr (by constructor <;> simp) a

@[simp] theorem busRead_setF (v : Byte) (s : State) (a : Word) : busRead a (setF v s) = busRead a s :=
  busRead_congr (by constructor <;> simp) a

@[simp] theorem busRead_setFlags (z n h c : Bool) (s : State) (a : Word) : busRead a (setFlags z n h c s) = busRead a s :=
  busRead_congr (by constructor <;> simp) a

@[simp] theorem busRead_setOut (o : AluOut) (s : State) (a : Word) : busRead a (setOut o s) = busRead a s :=
  busRead_congr (by constructor <;> simp) a

@[simp] theorem busRead_setHL (v : Word) (s : State) (a : Word) : busRead a (setHL v s) = busRead a s :=
  busRead_congr (by constructor <;> simp) a

@[simp] theorem busRead_popState (s : State) (a : Word) : busRead a (popState s) = busRead a s :=
  busRead_congr (by constructor <;> simp) a

@[simp] theorem busRead_burn (s : State) (a : Word) : busRead a (burn s) = busRead a s :=
  busRead_congr (by constructor <;> simp) a

@[simp] theorem busRead_countTick (s : State) (a : Word) : busRead a (countTick s) = busRead a s :=
  busRead_congr (by constructor <;> simp) a

@[simp] theorem busRead_wake (s : State) (a : Word) : busRead a (wake s) = busRead a s :=
  busRead_congr (by constructor <;> simp) a

@[simp] theorem busRead_promote (s : State) (a : Word) : busRead a (promote s) = busRead a s :=
  busRead_congr (by constructor <;> simp) a

@[simp] theorem busRead_setR8 (r : R8) (v : Byte) (s : State) (a : Word) : busRead a (setR8 r v s) = busRead a s :=
  busRead_congr (by constructor <;> simp) a

@[simp] theorem busRead_setPair (p : R16) (v : Word) (s : State) (a : Word) : busRead a (setPair p v s) = busRead a s :=
  busRead_congr (by constructor <;> simp) a

@[simp] theorem busRead_setStk (p : R16Stk) (v : Word) (s : State) (a : Word) : busRead a (setStk p v s) = busRead a s :=
  busRead_congr (by constructor <;> simp) a

/-! ## What a write does to a read -/

/-- WRAM is plain storage, seen twice: a byte written in 0xC000 to 0xFDFF is read back at its own place (20_memory.md R77). -/
theorem busRead_busWrite_wram (a : Word) (v : Byte) (s : State) (h : regionOf a = .wram ∨ regionOf a = .echo) :
    busRead a (busWrite a v s) = v := by
  unfold busRead busWrite readWithMask
  rcases h with h | h <;> simp [h]

/-- HRAM is plain storage (20_memory.md R82). -/
theorem busRead_busWrite_hram (a : Word) (v : Byte) (s : State) (h : regionOf a = .hram) : busRead a (busWrite a v s) = v := by
  unfold busRead busWrite readWithMask
  simp [h]

/-! ## The canonical form -/

/-- Every array of the machine is in canonical form. -/
structure MemoriesWf (s : State) : Prop where
  wram : Memory.wf s.wram = true
  hram : Memory.wf s.hram = true
  vram : Memory.wf s.ppu.vram = true
  oam : Memory.wf s.ppu.oam = true
  framebuffer : Store.wf s.ppu.framebuffer = true
  front : Store.wf s.ppu.front = true
  rom : Memory.wf s.cart.rom = true
  cram : Memory.wf s.cart.cram = true

theorem memoriesWf_reset : MemoriesWf State.reset := ⟨rfl, rfl, rfl, rfl, rfl, rfl, rfl, rfl⟩

/-- A cartridge write never changes the ROM image or what the header said (63_cartridge_mbc.md R511, R470). -/
theorem cartWrite_rom (t : Nat) (k : Cart) (a : Nat) (v : Byte) :
    (cartWrite t k a v).cart.rom = k.rom ∧ (cartWrite t k a v).cart.romLen = k.romLen ∧
    (cartWrite t k a v).cart.romCode = k.romCode ∧ (cartWrite t k a v).cart.ramCode = k.ramCode ∧
    (cartWrite t k a v).cart.battery = k.battery ∧ (cartWrite t k a v).cart.timer = k.timer := by
  unfold cartWrite
  split
  · unfold romAreaWrite CartStep.quiet withMbc
    split <;> exact ⟨rfl, rfl, rfl, rfl, rfl, rfl⟩
  · split
    · exact ⟨rfl, rfl, rfl, rfl, rfl, rfl⟩
    · split
      · unfold rtcAreaWrite CartStep.quiet withMbc
        split <;> exact ⟨rfl, rfl, rfl, rfl, rfl, rfl⟩
      · exact ⟨rfl, rfl, rfl, rfl, rfl, rfl⟩

/-- A cartridge write stores into one cell of `cram` or into none. -/
theorem cartWrite_cram (t : Nat) (k : Cart) (a : Nat) (v : Byte) :
    (cartWrite t k a v).cart.cram = k.cram ∨
    ∃ off, cramCell k (a - 0xA000) = some off ∧ 0x8000 ≤ a ∧
      (cartWrite t k a v).cart.cram = Store.write k.cram off (cramWriteMask k.mbc v) := by
  unfold cartWrite
  split
  · left; unfold romAreaWrite CartStep.quiet withMbc; split <;> rfl
  · split
    · rename_i h off ho; exact .inr ⟨off, ho, by omega, rfl⟩
    · left
      split
      · unfold rtcAreaWrite CartStep.quiet withMbc; split <;> rfl
      · rfl

theorem cartWrite_wf (t : Nat) (k : Cart) (a : Nat) (v : Byte) (h : Memory.wf k.cram = true) :
    Memory.wf (cartWrite t k a v).cart.cram = true := by
  rcases cartWrite_cram t k a v with e | ⟨off, -, -, e⟩ <;> rw [e]
  · exact h
  · exact Store.wf_write _ _ _ h

/-- A bus write keeps the canonical form of every array. -/
theorem busWrite_wf (a : Word) (v : Byte) (s : State) (h : MemoriesWf s) : MemoriesWf (busWrite a v s) := by
  have hc : ∀ n, MemoriesWf (cartWriteBus n v s) := fun n =>
    { h with
      rom := by
        show Memory.wf (cartWrite _ s.cart n v).cart.rom = true
        rw [(cartWrite_rom _ s.cart n v).1]; exact h.rom
      cram := cartWrite_wf _ s.cart n v h.cram }
  unfold busWrite
  cases regionOf a
  case cartRom => exact hc _
  case cartRam => exact hc _
  case vram => dsimp only; split; exact h; exact { h with vram := Store.wf_write _ _ _ h.vram }
  case oam => dsimp only; split; exact h; exact { h with oam := Store.wf_write _ _ _ h.oam }
  case wram => exact { h with wram := Store.wf_write _ _ _ h.wram }
  case echo => exact { h with wram := Store.wf_write _ _ _ h.wram }
  case hram => exact { h with hram := Store.wf_write _ _ _ h.hram }
  case unusable => exact h
  case ie => exact { h with }
  case io =>
    dsimp only
    cases ioRegAt (loByte a) with
    | none => exact h
    | some g => cases g <;> exact { h with }

theorem busWrite16_wf (a v : Word) (s : State) (h : MemoriesWf s) : MemoriesWf (busWrite16 a v s) :=
  busWrite_wf _ _ _ (busWrite_wf _ _ _ h)

theorem push16_wf (v : Word) (s : State) (h : MemoriesWf s) : MemoriesWf (push16 v s) :=
  busWrite_wf _ _ _ { busWrite_wf (s.sp - 1) (hiByte v) { s with sp := s.sp - 1 } { h with } with }

theorem takeInterrupt_wf (i : IntSource) (s : State) (h : MemoriesWf s) : MemoriesWf (takeInterrupt i s) :=
  { push16_wf s.pc { s with ifReg := s.ifReg &&& ~~~ requestBit i, ime := false, imeEnabling := false } { h with } with }

theorem dmaTick_wf (s : State) (h : MemoriesWf s) : MemoriesWf (dmaTick s) :=
  { h with oam := Store.wf_write _ _ _ h.oam }

theorem writePixel_wf (p : Ppu) (c : BitVec 2) (h : Store.wf p.framebuffer = true) :
    Store.wf (writePixel p c).framebuffer = true := Store.wf_write _ _ _ h

theorem patchBytes_wf (bs : List Byte) (a : Nat) (rom : Memory) (h : Memory.wf rom = true) :
    Memory.wf (patchBytes a bs rom) = true := by
  induction bs generalizing a rom with
  | nil => exact h
  | cons v bs ih => exact ih _ _ (Store.wf_write _ _ _ h)

theorem readyToFetch_wf (bs : List Byte) (s : State) (h : MemoriesWf s) : MemoriesWf (readyToFetch bs s) :=
  { h with rom := patchBytes_wf _ _ _ h.rom }

theorem restoreFrom_wf (save : List Byte) (k : Nat) (cart : Cart) (h : Memory.wf cart.cram = true) :
    Memory.wf (restoreFrom k save cart).cram = true := by
  induction save generalizing k cart with
  | nil => exact h
  | cons v save ih =>
    unfold restoreFrom
    split
    · exact ih _ _ (Store.wf_write _ _ _ h)
    · exact h

/-! ## The devices -/

/-- The fetcher touches no array that the host or the CPU can write. -/
theorem fetcherStep_frame (p : Ppu) : { fetcherStep p with
    fetchPhase := p.fetchPhase, fetchCol := p.fetchCol, tileNo := p.tileNo, dataLo := p.dataLo, dataHi := p.dataHi,
    fifo := p.fifo } = p := by
  unfold fetcherStep
  split <;> try rfl
  split <;> rfl

/-- The output writes the framebuffer and moves the FIFO, and may start the window. -/
theorem outputStep_frame (p : Ppu) : { outputStep p with
    fetchPhase := p.fetchPhase, fetchCol := p.fetchCol, fifo := p.fifo, discard := p.discard, lx := p.lx,
    winActive := p.winActive, framebuffer := p.framebuffer } = p := by
  unfold outputStep
  split
  · rfl
  · split
    · rfl
    · rename_i h
      split <;> (simp only [writePixel]; try rw [← h])

end Sys2Proof.Machine
end

