-- ==== Sys2Proof/Laws/Clock.lean ====
section
/-! SUPPORT. Laws of the device requests: what a request does to IF, said once for the timer, the PPU and the buttons
(60_exceptions.md R345). -/

namespace Sys2Proof.Machine

/-- A source's request sets its own bit alone. -/
@[simp] theorem requestBit_getLsbD (i : IntSource) (k : Nat) : (requestBit i).getLsbD k = decide (k = sourceBit i) := by
  have hi : sourceBit i < 5 := by cases i <;> decide
  rcases Nat.lt_or_ge k 5 with h | h
  · revert k; cases i <;> decide
  · rw [BitVec.getLsbD_of_ge _ _ h]
    exact (decide_eq_false (by omega)).symm

/-- A request touches nothing but IF. -/
theorem request_eq (i : IntSource) (asked : Bool) (s : State) :
    request i asked s = { s with ifReg := if asked then s.ifReg ||| requestBit i else s.ifReg } := by
  cases asked <;> rfl

/-- Every bit of IF after a request: as before, and the source's bit if it was asked for. -/
@[simp] theorem request_getLsbD (i : IntSource) (asked : Bool) (s : State) (k : Nat) :
    (request i asked s).ifReg.getLsbD k = (s.ifReg.getLsbD k || (asked && decide (k = sourceBit i))) := by
  cases asked <;> simp [request]

/-- Pressing or releasing one button leaves what every other reads as. -/
theorem isPressed_withButton (button other : Button) (pressed : Bool) (k : Buttons) :
    isPressed other (withButton button pressed k) = if other = button then pressed else isPressed other k := by
  cases button <;> cases other <;> rfl

end Sys2Proof.Machine
end

