-- ==== Sys2Proof/Laws/Exec.lean ====
section
/-! SUPPORT. The meaning of each family of instructions is one shared operation with the family's operands: cited instead of
unfolding the dispatch. -/

namespace Sys2Proof.Machine

/-! ## Loads -/

theorem exec_ldRegReg (dst src : R8) (s : State) : exec (Fam.ldRegReg dst src) s = load8 (.reg dst) (.reg src) 1 1 s := by cases dst <;> cases src <;> rfl
theorem exec_ldRegImm (dst : R8) (n : Byte) (s : State) : exec (Fam.ldRegImm dst n) s = load8 (.reg dst) (.imm n) 2 2 s := by cases dst <;> rfl
theorem exec_ldRegInd (dst : R8) (s : State) : exec (Fam.ldRegInd dst) s = load8 (.reg dst) (.ind .hl) 1 2 s := by cases dst <;> rfl
theorem exec_ldIndReg (src : R8) (s : State) : exec (Fam.ldIndReg src) s = load8 (.ind .hl) (.reg src) 1 2 s := by cases src <;> rfl
theorem exec_ldPairImm (p : R16) (nn : Word) (s : State) : exec (Fam.ldPairImm p nn) s = load16Imm p nn s := by cases p <;> rfl
theorem exec_push (p : R16Stk) (s : State) : exec (Fam.push p) s = pushPair p s := by cases p <;> rfl
theorem exec_pop (p : R16Stk) (s : State) : exec (Fam.pop p) s = popPair p s := by cases p <;> rfl

/-! ## Arithmetic and logic -/

theorem exec_aluReg (op : AluOp) (r : R8) (s : State) : exec (Fam.aluReg op r) s = alu8 op (.reg r) 1 1 s := by cases op <;> cases r <;> rfl
theorem exec_aluInd (op : AluOp) (s : State) : exec (Fam.aluInd op) s = alu8 op (.ind .hl) 1 2 s := by cases op <;> rfl
theorem exec_aluImm (op : AluOp) (n : Byte) (s : State) : exec (Fam.aluImm op n) s = alu8 op (.imm n) 2 2 s := by cases op <;> rfl
theorem exec_incReg (r : R8) (s : State) : exec (Fam.incReg r) s = modify8 inc8 (.reg r) 1 1 s := by cases r <;> rfl
theorem exec_decReg (r : R8) (s : State) : exec (Fam.decReg r) s = modify8 dec8 (.reg r) 1 1 s := by cases r <;> rfl
theorem exec_addHl (p : R16) (s : State) : exec (Fam.addHl p) s = addHlPair p s := by cases p <;> rfl
theorem exec_incPair (p : R16) (s : State) : exec (Fam.incPair p) s = incPair p s := by cases p <;> rfl
theorem exec_decPair (p : R16) (s : State) : exec (Fam.decPair p) s = decPair p s := by cases p <;> rfl

/-! ## The CB table -/

theorem exec_rotReg (op : RotOp) (r : R8) (s : State) : exec (Fam.rotReg op r) s = modify8 (shiftOut op) (.reg r) 2 2 s := by cases op <;> cases r <;> rfl
theorem exec_rotInd (op : RotOp) (s : State) : exec (Fam.rotInd op) s = modify8 (shiftOut op) (.ind .hl) 2 4 s := by cases op <;> rfl
theorem exec_bitReg (b : Oct) (r : R8) (s : State) : exec (Fam.bitReg b r) s = testBit8 (octNat b) (.reg r) 2 s := by cases b <;> cases r <;> rfl
theorem exec_bitInd (b : Oct) (s : State) : exec (Fam.bitInd b) s = testBit8 (octNat b) (.ind .hl) 3 s := by cases b <;> rfl
theorem exec_resReg (b : Oct) (r : R8) (s : State) : exec (Fam.resReg b r) s = change8 (resBit (octNat b)) (.reg r) 2 s := by cases b <;> cases r <;> rfl
theorem exec_resInd (b : Oct) (s : State) : exec (Fam.resInd b) s = change8 (resBit (octNat b)) (.ind .hl) 4 s := by cases b <;> rfl
theorem exec_setReg (b : Oct) (r : R8) (s : State) : exec (Fam.setReg b r) s = change8 (setBit (octNat b)) (.reg r) 2 s := by cases b <;> cases r <;> rfl
theorem exec_setInd (b : Oct) (s : State) : exec (Fam.setInd b) s = change8 (setBit (octNat b)) (.ind .hl) 4 s := by cases b <;> rfl

/-! ## Control transfer -/

theorem exec_jpCond (k : Cond) (nn : Word) (s : State) : exec (Fam.jpCond k nn) s = jumpIf k nn s := by cases k <;> rfl
theorem exec_jrCond (k : Cond) (e : Byte) (s : State) : exec (Fam.jrCond k e) s = jumpRelIf k e s := by cases k <;> rfl
theorem exec_callCond (k : Cond) (nn : Word) (s : State) : exec (Fam.callCond k nn) s = callIf k nn s := by cases k <;> rfl
theorem exec_retCond (k : Cond) (s : State) : exec (Fam.retCond k) s = retIf k s := by cases k <;> rfl
theorem exec_rst (y : Oct) (s : State) : exec (Fam.rst y) s = restart (BitVec.ofNat 16 (8 * octNat y)) s := by cases y <;> rfl
theorem exec_illegal (u : Unassigned) (s : State) : exec (Fam.illegal u) s = Sys2Proof.Machine.illegal (unassignedOp u) Config.illegalOpcodePolicy s := by cases u <;> rfl

/-! ## The clock -/

/-- A tick in which the CPU does not act only runs the devices. -/
theorem tick_devices (s : State) (h : cpuPhase (countTick s) = false) : tick s = .next (devices (countTick s)) := by
  simp [tick, h, Result.thenDo]

/-- A tick in which the CPU takes its next step. -/
theorem tick_cpuStep (s : State) (h : cpuPhase (countTick s) = true) (hf : s.fault = none) (hc : s.cyclesLeft = 0) :
    tick s = ((cpuStep (countTick s)).thenDo burn).thenDo devices := by
  simp [tick, h, cpuClock, hf, hc]

/-- A tick in which an instruction's count runs down. -/
theorem tick_burn (s : State) (h : cpuPhase (countTick s) = true) (hf : s.fault = none) (hc : s.cyclesLeft ≠ 0) :
    tick s = .next (devices (burn (countTick s))) := by
  simp [tick, h, cpuClock, hf, hc, Result.thenDo]

end Sys2Proof.Machine
end

