-- ==== Sys2Proof/Laws/OpcodeTable.lean ====
section
/-! SUPPORT. Laws of the opcode table's rows: the columns written from the fields of an opcode agree with the encoder. -/

set_option maxRecDepth 8000

namespace Sys2Proof

/-- The opcode bytes of a pattern, its immediates left as zeros. -/
def patternBytes : List PatternByte → List Byte
  | [] => []
  | .fixed b :: rest => b :: patternBytes rest
  | .n :: rest => 0 :: patternBytes rest
  | .e :: rest => 0 :: patternBytes rest
  | .l :: rest => 0 :: patternBytes rest
  | .h :: rest => 0 :: patternBytes rest

/-- `encoding` of a main-table row is what the encoder writes for its instruction with operands of zeros. -/
theorem encodingOf_main (op : Byte) (h : op ≠ Config.cbPrefix) : patternBytes (encodingOf (.main op)) = encode (rowInstr (.main op)) := by
  revert op; decide

/-- `encoding` of a CB row is what the encoder writes for its instruction. -/
theorem encodingOf_cb (op2 : Byte) : patternBytes (encodingOf (.cb op2)) = encode (rowInstr (.cb op2)) := by
  revert op2; decide

end Sys2Proof
end

