-- ==== Sys2Proof/Tests/Slice0.lean ====
section
/-! SUPPORT. The model's own tests: expected results are the spec's examples and vectors (95_test_vectors.md, the rules' "Example"
clauses); and for every obligation with hypotheses a concrete state and operands that meet them. -/

set_option maxRecDepth 8000

namespace Sys2Proof.Tests

open Sys2Proof Sys2Proof.Machine

/-! ## Helpers -/

/-- The state of an outcome. -/
def after (r : Result) : State :=
  match r with
  | .next t => t
  | .fault _ => State.reset
  | .refused _ => State.reset

/-- The reset state with A, F and B set. -/
def withAFB (a f b : Byte) : State := { State.reset with a := a, f := f, b := b }

/-- The reset state with HL set and one byte of WRAM at offset 0x000 (address 0xC000). -/
def withHL (hl : Word) (v : Byte) : State := { State.reset with h := hiByte hl, l := loByte hl, wram := Store.write [] 0 v }

/-- The reset state with a cartridge's MBC. -/
def withMbcOf (mbc : Mbc) : State := { State.reset with cart := { Cart.blank with mbc := mbc } }

/-- A and F after an instruction. -/
def aAndF (r : Result) : Byte × Byte := ((after r).a, (after r).f)

/-! ## WellFormed: the one check refuses the one ill-formed form (30_encoding.md R135) -/

theorem test_wellFormed_refuses_bare_prefix : (Instr.prefix_CB 0x37).wellFormed = false := by decide
theorem test_wellFormed_accepts_swap : Instr.swap_A.wellFormed = true := by decide

/-! ## Decoding: words written out from the encodings (30_encoding.md R130 to R136) -/

theorem test_decode_load8 :
    decode 0b01_111_000 0 0 = .ld_A_B ∧ decode 0b00_111_110 0x41 0 = .ld_A_n 0x41 ∧ decode 0b01_100_110 0 0 = .ld_H_iHL ∧
    decode 0b01_110_101 0 0 = .ld_iHL_L ∧ decode 0b00_110_110 0x5A 0 = .ld_iHL_n 0x5A ∧ decode 0b00_001_010 0 0 = .ld_A_iBC ∧
    decode 0b00_010_010 0 0 = .ld_iDE_A ∧ decode 0b11_111_010 0x00 0xC0 = .ld_A_inn 0xC000 ∧ decode 0x2A 0 0 = .ld_A_iHLp ∧
    decode 0x32 0 0 = .ld_iHLm_A ∧ decode 0xF0 0x44 0 = .ldh_A_n 0x44 ∧ decode 0xE2 0 0 = .ld_iC_A := by decide
theorem test_decode_load16 :
    decode 0b00_110_001 0x00 0xD0 = .ld_SP_nn 0xD000 ∧ decode 0x08 0x00 0xC1 = .ld_inn_SP 0xC100 ∧ decode 0xF9 0 0 = .ld_SP_HL ∧
    decode 0xF8 0xFE 0 = .ld_HL_SPe 0xFE ∧ decode 0b11_110_101 0 0 = .push_AF ∧ decode 0b11_000_001 0 0 = .pop_BC := by decide
theorem test_decode_alu :
    decode 0b10_001_110 0 0 = .adc_A_iHL ∧ decode 0b11_011_110 0x3A 0 = .sbc_A_n 0x3A ∧ decode 0b10_111_001 0 0 = .cp_C ∧
    decode 0b00_110_101 0 0 = .dec_iHL ∧ decode 0b00_111_001 0 0 = .add_HL_SP ∧ decode 0xE8 0x80 0 = .add_SP_e 0x80 ∧
    decode 0b00_001_011 0 0 = .dec_BC ∧ decode 0b00_100_111 0 0 = .daa ∧ decode 0b00_010_111 0 0 = .rla := by decide
theorem test_decode_cb :
    decode 0xCB 0b01_111_100 0 = .bit_7_H ∧ decode 0xCB 0b00_110_111 0 = .swap_A ∧ decode 0xCB 0b11_000_110 0 = .set_0_iHL ∧
    decode 0xCB 0b10_001_011 0 = .res_1_E ∧ decode 0xCB 0b00_101_110 0 = .sra_iHL := by decide
theorem test_decode_control_and_system :
    decode 0xC3 0x50 0x01 = .jp_nn 0x0150 ∧ decode 0b00_100_000 0xFC 0 = .jr_NZ_e 0xFC ∧ decode 0xE9 0 0 = .jp_HL ∧
    decode 0b11_010_100 0x34 0x12 = .call_NC_nn 0x1234 ∧ decode 0b11_011_000 0 0 = .ret_C ∧ decode 0xD9 0 0 = .reti ∧
    decode 0b11_101_111 0 0 = .rst_28H ∧ decode 0x76 0 0 = .halt ∧ decode 0x10 0x3C 0 = .stop 0x3C ∧ decode 0xFB 0 0 = .ei ∧
    decode 0xED 0 0 = .illegal_ED := by decide
theorem test_encode_words :
    encode (.jp_nn 0x0150) = [0xC3, 0x50, 0x01] ∧ encode .set_0_iHL = [0xCB, 0xC6] ∧ encode (.ld_inn_SP 0xC100) = [0x08, 0x00, 0xC1] := by
  decide
/-- The table numbers a later byte's bits above the first byte's. -/
theorem test_decodeTableWord : decodeTableWord 16 0x413E = some (.ld_A_n 0x41) ∧ decodeTableWord 8 0x00 = some .nop := by decide

/-! ## Loads (40_load8.md, 41_load16_stack.md examples) -/

theorem test_ld_H_iHL : regHL (after (exec .ld_H_iHL (withHL 0xC000 0x99))) = 0x9900 := by decide
theorem test_ld_iHL_L : busRead 0xC123 (after (exec .ld_iHL_L (withHL 0xC123 0))) = 0x23 := by decide
theorem test_ld_A_iHLp_at_top : regHL (after (exec .ld_A_iHLp { State.reset with h := 0xFF, l := 0xFF })) = 0 := by decide
theorem test_ld_inn_SP_wraps :
    busRead 0xFFFF (after (exec (.ld_inn_SP 0xFFFF) { State.reset with sp := 0x1234 })) = 0x34 := by decide
theorem test_push_then_pop_AF_masks :
    regAF (after (exec .pop_AF (after (exec .push_BC { State.reset with b := 0x12, c := 0x3F, sp := 0xDFFE })))) = 0x1230 := by decide
theorem test_ld_HL_SPe_flags :
    regHL (after (exec (.ld_HL_SPe 0x02) State.reset)) = 0x0000 ∧ (after (exec (.ld_HL_SPe 0x02) State.reset)).f = 0x30 := by decide

/-! ## Arithmetic (95_test_vectors.md, family tables) -/

theorem test_add_half_and_carry : aAndF (exec .add_A_B (withAFB 0x3A 0 0xC6)) = (0x00, 0xB0) := by decide
theorem test_adc_uses_carry : aAndF (exec (.adc_A_n 0x3B) (withAFB 0xE1 0x10 0)) = (0x1D, 0x10) := by decide
theorem test_sbc_uses_borrow : aAndF (exec (.sbc_A_n 0x3A) (withAFB 0x3B 0x10 0)) = (0x00, 0xC0) := by decide
theorem test_cp_keeps_a : aAndF (exec (.cp_n 0x40) (withAFB 0x3C 0 0)) = (0x3C, 0x50) := by decide
theorem test_inc_keeps_carry : (after (exec .inc_B (withAFB 0 0x10 0xFF))).f = 0xB0 := by decide
theorem test_dec_sets_half : (after (exec .dec_B (withAFB 0 0 0x00))).f = 0x60 := by decide
theorem test_and_sets_half : aAndF (exec (.and_n 0x38) (withAFB 0x5A 0 0)) = (0x18, 0x20) := by decide
theorem test_add_HL_keeps_z : (after (exec .add_HL_HL { State.reset with h := 0x8A, l := 0x23, f := 0x80 })).f = 0xB0 := by decide
theorem test_add_SP_negative : (after (exec (.add_SP_e 0xFE) { State.reset with sp := 0xFFF8 })).sp = 0xFFF6 := by decide
theorem test_daa_after_add : aAndF (exec .daa (withAFB 0x7D 0 0)) = (0x83, 0x00) := by decide
theorem test_daa_after_sub : aAndF (exec .daa (withAFB 0x4B 0x60 0)) = (0x45, 0x40) := by decide
theorem test_rla_clears_z : aAndF (exec .rla (withAFB 0x80 0 0)) = (0x00, 0x10) := by decide
theorem test_ccf : (after (exec .ccf (withAFB 0 0xF0 0))).f = 0x80 := by decide

/-! ## The CB table -/

theorem test_swap_a : aAndF (exec .swap_A (withAFB 0xF0 0x10 0)) = (0x0F, 0x00) := by decide
theorem test_sra_keeps_sign : (after (exec .sra_B (withAFB 0 0 0x8A))).b = 0xC5 := by decide
theorem test_bit_keeps_carry : (after (exec .bit_7_H { State.reset with h := 0x7F, f := 0x10 })).f = 0xB0 := by decide
theorem test_set_iHL : busRead 0xC000 (after (exec .set_3_iHL (withHL 0xC000 0x01))) = 0x09 := by decide
theorem test_res_A : (after (exec .res_7_A (withAFB 0x80 0xF0 0))).a = 0 := by decide

/-! ## Control and system -/

theorem test_jr_backward : (after (exec (.jr_e 0xFE) State.reset)).pc = 0x0100 := by decide
theorem test_jp_c_not_taken : (after (exec (.jp_C_nn 0x8000) (withAFB 0 0x80 0))).pc = 0x0103 := by decide
theorem test_call_pushes_next : stackTop (after (exec (.call_nn 0x1234) { State.reset with sp := 0xDFFE })) = 0x0103 := by decide
theorem test_rst : (after (exec .rst_38H State.reset)).pc = 0x0038 := by decide
theorem test_reti_sets_ime : (after (exec .reti State.reset)).ime = true := by decide
theorem test_ei_is_delayed :
    (after (exec .ei State.reset)).ime = false ∧ (after (exec .ei State.reset)).imeEnabling = true := by decide
theorem test_illegal : (after (exec .illegal_DD State.reset)).fault = some (.illegalOpcode 0xDD) := by decide
/-- The first instruction after reset, through `step`: LD A,n (40_load8.md R152's example). -/
theorem test_step_runs_placed_instruction : (after (step (State.reset.withFetchWord 16 0x413E))).a = 0x41 := by decide

/-! ## Devices -/

/-- MBC1: writing 0x20 to the bank register selects bank 0x21 with `sec` = 1 (63_cartridge_mbc.md R481). -/
theorem test_mbc1_bank_remap :
    romOffset (busWrite 0x2000 0x20 (withMbcOf (.mbc1 ⟨false, 5, 1, 0⟩))).cart.mbc 0x4000 = 0x4000 * 0x21 := by decide
/-- MBC2 cells read back with the high nibble 1 (63_cartridge_mbc.md R490). -/
theorem test_mbc2_nibbles : busRead 0xA200 (busWrite 0xA000 0x35 (withMbcOf (.mbc2 ⟨true, 1⟩))) = 0xF5 := by decide
/-- TIMA at 0xFF reloads from TMA and requests the interrupt (61_timer_dma_io.md R381). -/
theorem test_timer_overflow : timerTick ⟨0x000F, 0xFF, 0x42, 0b101⟩ = (⟨0x0010, 0x42, 0x42, 0b101⟩, true) := by decide
/-- The joypad matrix: the direction group selected, Right pressed (61_timer_dma_io.md R400). -/
theorem test_joypad : joypRead 0b10 { Buttons.released with right := true } = 0xEE := by decide

/-! ## The opcode table (30_encoding.md R139) -/

theorem test_opcodeTable_has_512_rows : opcodeTable.length = 512 := by simp [opcodeTable, opcodeValues]
/-- The prefix's own row: format OP, no length, no count, R326. -/
theorem test_prefix_row :
    (descriptorOf (.main 0xCB)).format = .op ∧ (descriptorOf (.main 0xCB)).length = none ∧ (descriptorOf (.main 0xCB)).cycles = none ∧
    (descriptorOf (.main 0xCB)).rule = 326 ∧ (descriptorOf (.main 0xCB)).encoding = [.fixed 0xCB] := by decide
/-- JR NZ,e and SRA H, row by row from opcode_table.json. -/
theorem test_jr_NZ_row :
    (descriptorOf (.main 0x20)).format = .opE8 ∧ (descriptorOf (.main 0x20)).encoding = [.fixed 0b00100000, .e] ∧
    (descriptorOf (.main 0x20)).cycles = some 2 ∧ (descriptorOf (.main 0x20)).cyclesTaken = some 3 ∧
    (descriptorOf (.main 0x20)).fields = [(.cc, 0)] ∧ (descriptorOf (.main 0x20)).rule = 305 := by decide
theorem test_sra_H_row :
    (descriptorAt 0xCB 0x2C).matchValue = 0xCB2C ∧ (descriptorAt 0xCB 0x2C).mask = 0xFFFF ∧
    (descriptorAt 0xCB 0x2C).fields = [(.rot, 5), (.r8, 4)] ∧ (descriptorAt 0xCB 0x2C).rule = 281 := by decide

/-! ## Witnesses: for every obligation with hypotheses a state and operands that meet them together -/

/-- A running machine: IME set, VBlank and Timer enabled and requested, a DMA transfer at its last byte, data in the arrays. -/
def busy : State :=
  { State.reset with
    a := 0x12
    f := 0xB0
    sp := 0xDFFE
    pc := 0xC000
    ime := true
    ie := 0x05
    ifReg := 0b00101
    ticks := 7
    wram := [(0, 0x3C), (0x1FFF, 0x07)]
    hram := [(5, 0xFF)]
    dma := ⟨true, 0xC0, 159⟩
    ppu := { Ppu.reset with vram := [(3, 1)], oam := [(0, 16), (159, 2)] } }

theorem arrayOk_of {w n : Nat} {m : Store w} (h : (Store.wf m && Store.below n m) = true) : ArrayOk n m := by
  simpa [ArrayOk, Bool.and_eq_true] using h

/-- O11 at a machine whose arrays are not empty and whose DMA engine runs. -/
theorem witness_StepKeepsTheInvariant : Inv busy where
  cpu := ⟨by decide, by decide, fun _ h => nomatch h⟩
  dma := ⟨by decide, by decide⟩
  wram := arrayOk_of (by decide)
  hram := arrayOk_of (by decide)
  ppu :=
    { vram := arrayOk_of (by decide)
      oam := arrayOk_of (by decide)
      framebuffer := arrayOk_of (by decide)
      front := arrayOk_of (by decide)
      height := Or.inl rfl
      candidates := by decide
      fifo := by decide
      discard := by decide
      lx := by decide
      drawing := by decide
      lyVisible := fun _ => by decide
      lyVBlank := by decide
      windowVisible := fun _ => by decide
      windowVBlank := by decide
      settled := fun _ => rfl }
  cart := ⟨arrayOk_of (by decide), arrayOk_of (by decide), trivial, trivial⟩
  saved := fun h => absurd h (by decide)

/-- The PPU while it draws, at the last line's last admissible dot and at a usual one; in HBLANK's and VBLANK's last dots. -/
def drawing : Ppu := { Ppu.reset with mode := .drawPixels, ly := 143, lineDot := 268, lx := 159, fifo := [1, 2, 3, 0, 0, 0, 0, 0], winActive := true }

/-- O12, O13 in each mode at a boundary. -/
theorem witness_PpuKeepsTime :
    PpuOnTime busy.ppu ∧ PpuOnTime { Ppu.reset with lineDot := 79 } ∧ PpuOnTime { drawing with lineDot := 267 } ∧
    PpuOnTime { drawing with mode := .hblank, lineDot := 455 } ∧
    PpuOnTime { drawing with mode := .vblank, ly := 144, lineDot := 0 } ∧
    PpuOnTime { drawing with mode := .vblank, ly := 153, lineDot := 455 } := by
  refine ⟨?_, ?_, ?_, ?_, ?_, ?_⟩ <;> (show _ ∧ _) <;> decide
theorem witness_LineTakes456DotsAndFrame154Lines :
    PpuOnTime { Ppu.reset with lineDot := 40 } ∧ PpuOnTime { Ppu.reset with mode := .vblank, ly := 150 } := by
  constructor <;> (show _ ∧ _) <;> decide

/-- A small cartridge image: MBC2 with a battery, 512 bytes. -/
def smallImage : Image := ⟨0x200, [(0x0147, 0x06)]⟩

/-- O3: a successful load, with a save image. -/
theorem witness_LoadBuildsAGoodMachine :
    ArrayOk smallImage.len smallImage.bytes ∧ ∃ s, load smallImage (some [0xFF, 0x01]) = .next s ∧ Store.read s.cart.cram 0 = 0x0F := by
  refine ⟨arrayOk_of (by decide), after (load smallImage (some [0xFF, 0x01])), rfl, by decide⟩

/-- O4: each of its four cases, at the boundaries of the length and of the codes; and its last clause at the ends of the areas. -/
theorem witness_LoadOutcomes_short : (0x014F : Nat) < 0x0150 ∧ load ⟨0x014F, []⟩ none = .refused .loadMalformed := ⟨by decide, rfl⟩
theorem witness_LoadOutcomes_unsupported :
    Store.read (⟨0x0150, [(0x0147, 0x04)]⟩ : Image).bytes 0x0147 ∉
      ([0x00, 0x01, 0x02, 0x03, 0x05, 0x06, 0x08, 0x09, 0x0F, 0x10, 0x11, 0x12, 0x13] : List Byte) ∧
    load ⟨0x0150, [(0x0147, 0x04)]⟩ none = .refused (.loadUnsupportedType 0x04) := ⟨by decide, rfl⟩
theorem witness_LoadOutcomes_codes :
    ¬ ((Store.read ([(0x0148, 9)] : Memory) 0x0148).toNat ≤ 8) ∧ ¬ ((Store.read ([(0x0149, 6)] : Memory) 0x0149).toNat ≤ 5) ∧
    load ⟨0x0150, [(0x0148, 9)]⟩ none = .refused .loadMalformed ∧ load ⟨0x0150, [(0x0149, 6)]⟩ none = .refused .loadMalformed := by
  exact ⟨by decide, by decide, rfl, rfl⟩
/-- An MBC0 image of the least length, with the largest size codes. -/
def leastImage : Image := ⟨0x0150, [(0x0147, 0x09), (0x0148, 8), (0x0149, 5)]⟩

/-- The machine that its load builds. -/
def leastMachine : State := after (load leastImage none)

theorem witness_LoadOutcomes_mbc0 :
    0x0150 ≤ leastImage.len ∧ Store.read leastImage.bytes 0x0147 ∈ ([0x00, 0x08, 0x09] : List Byte) ∧
    (Store.read leastImage.bytes 0x0148).toNat ≤ 8 ∧ (Store.read leastImage.bytes 0x0149).toNat ≤ 5 := by decide
theorem witness_LoadOutcomes_mbc0_reads :
    busRead 0x0147 leastMachine = 0x09 ∧ busRead 0x014F leastMachine = 0 ∧ busRead 0x0150 leastMachine = 0xFF ∧
    busRead 0xA000 leastMachine = 0 ∧ busRead 0xBFFF leastMachine = 0 := by
  refine ⟨?_, ?_, ?_, ?_, ?_⟩ <;> decide
theorem witness_LoadOutcomes_mbc0_loads : load leastImage none = .next leastMachine := rfl

/-- O5 and O8: a well-formed instruction, and the CB entries at both ends. -/
theorem witness_DecodeOfEncodeIsTheInstruction : (Instr.jp_nn 0x0150).wellFormed = true := by decide
theorem witness_PrefixRunsTheCbInstruction : decodeCb 0x00 = .rlc_B ∧ decodeCb 0xFF = .set_7_A := by decide

/-- A CPU tick at which LD A,n is fetched from WRAM. -/
def fetching : State := { State.reset with pc := 0xC000, ticks := 3, imeEnabling := true, wram := [(0, 0x3E), (1, 0x41)] }

/-- O9. -/
theorem witness_StepRunsTheDecodedInstruction :
    ((fetching.ticks + 1) % 4 = 0 ∧ fetching.fault = none ∧ fetching.cyclesLeft = 0 ∧ fetching.halted = false ∧ fetching.ime = false ∧
      pending fetching = 0) ∧
    (busRead fetching.pc fetching = 0x3E ∧ busRead (fetching.pc + 1) fetching = 0x41 ∧ busRead (fetching.pc + 2) fetching = 0) ∧
    decodeBytes [0x3E, 0x41, 0] = .ok (.ld_A_n 0x41, [0]) ∧
    ∃ t, exec (.ld_A_n 0x41) { fetching with ticks := fetching.ticks + 1, ime := fetching.ime || fetching.imeEnabling, imeEnabling := false } =
      .next t := by
  exact ⟨by decide, by decide, rfl, ⟨_, rfl⟩⟩

/-- O15: each of its three cases alone. -/
theorem witness_OnlyCpuStepsChangeTheCpu :
    ({ busy with fault := some (.illegalOpcode 0xDD) } : State).fault ≠ none ∧ (busy.ticks + 1) % 4 = 0 ∧
    ({ busy with cyclesLeft := 1 } : State).cyclesLeft ≠ 0 ∧ (({ busy with ticks := 4 } : State).ticks + 1) % 4 ≠ 0 := by decide
/-- O16: a tick without the CPU, a tick that burns an M-cycle, a tick in which the CPU takes a step; a tick of all three devices. -/
theorem witness_DevicesLeaveTheCpuAlone_ticks :
    (({ busy with ticks := 4 } : State).ticks + 1) % 4 ≠ 0 ∧ ((busy.ticks + 1) % 4 = 0 ∧ busy.fault = none) ∧
    ({ busy with cyclesLeft := 5 } : State).cyclesLeft ≠ 0 ∧ busy.cyclesLeft = 0 ∧
    ∃ u, cpuStep { busy with ticks := busy.ticks + 1 } = .next u := ⟨by decide, by decide, by decide, by decide, _, rfl⟩
theorem witness_DevicesLeaveTheCpuAlone_devices :
    (devices busy).timer.div16 = 0xABCD ∧ (devices busy).dma = ⟨false, 0xC0, 160⟩ ∧ (devices busy).ppu.lineDot = 1 := by decide
/-- O16: its two conditional clauses. -/
theorem witness_DevicesLeaveTheCpuAlone : State.reset.dma.active = false ∧ busy.ifReg.getLsbD 0 = true ∧ busy.ifReg.getLsbD 2 = true := by
  decide

/-- O17: the first and the last source. -/
theorem witness_InterruptEntry_first :
    busy.ime = true ∧ busy.ie.getLsbD 0 = true ∧ busy.ifReg.getLsbD 0 = true ∧ (after (cpuStep busy)).pc = 0x0040 := by decide
theorem witness_InterruptEntry_last :
    let s : State := { busy with ie := 0xFF, ifReg := 0b10000 }
    s.ime = true ∧ s.ie.getLsbD 4 = true ∧ s.ifReg.getLsbD 4 = true ∧ (∀ j < 4, (s.ie.getLsbD j && s.ifReg.getLsbD j) = false) ∧
    (after (cpuStep s)).pc = 0x0060 := by decide
/-- O18: halted without a request; halted with one and IME = 0; the delayed enable. -/
theorem witness_HaltAndEiInTheCpuStep :
    (({ busy with halted := true, ifReg := 0b11010 } : State).halted = true ∧
      ∀ j < 5, (({ busy with halted := true, ifReg := 0b11010 } : State).ie.getLsbD j &&
        ({ busy with halted := true, ifReg := 0b11010 } : State).ifReg.getLsbD j) = false) ∧
    (({ busy with halted := true, ime := false } : State).halted = true ∧
      ∃ j < 5, (({ busy with halted := true, ime := false } : State).ie.getLsbD j &&
        ({ busy with halted := true, ime := false } : State).ifReg.getLsbD j) = true) ∧
    (({ busy with ime := false, imeEnabling := true } : State).halted = false ∧
      ({ busy with ime := false, imeEnabling := true } : State).imeEnabling = true) := by decide

/-- O19, O20: the two stack bytes are plain storage, in WRAM, and where SP wraps (IE and HRAM). -/
theorem witness_RetiReturnsFromInterrupt :
    busy.ime = true ∧ pending busy ≠ 0 ∧ plainStorage busy (busy.sp - 1) = true ∧ plainStorage busy (busy.sp - 2) = true := by decide
theorem witness_PushThenPop :
    plainStorage busy (0x0000 - 1) = true ∧ plainStorage busy (0x0000 - 2) = true ∧
    popValue (push16 0xBEEF { busy with sp := 0x0000 }) = 0xBEEF := by decide
/-- O30: POP AF. -/
theorem witness_PopPair : (R16Stk.af = .af) ∧ getStk .af (after (exec .pop_AF busy)) = stackTop busy &&& 0xFFF0 := by decide
/-- O31, O32, O36, O42, O43: the carry, the byte and the table entry that the statements name. -/
theorem witness_named_operands :
    (1 : Nat) = ((withAFB 0x12 0x10 0x34).f.getLsbD 4).toNat ∧ (0x99 : Byte) = busRead (regHL (withHL 0xC000 0x99)) (withHL 0xC000 0x99) ∧
    ((0x33, true) : Nat × Bool) = shiftTable .rlc (busRead (regHL (withHL 0xC000 0x99)) (withHL 0xC000 0x99)).toNat 0 := by decide
/-- O39: the flags and the two corrections of an A of 0x9A. -/
theorem witness_DecimalAdjust :
    let s := withAFB 0x9A 0x00 0
    false = s.f.getLsbD 6 ∧ false = s.f.getLsbD 5 ∧ false = s.f.getLsbD 4 ∧
    true = (false || (!false && decide (9 < s.a.toNat % 16))) ∧ true = (false || (!false && decide (0x99 < s.a.toNat))) ∧
    aAndF (exec .daa s) = (0x00, 0x90) := by decide
/-- O39, O40: operands of the decimal correction. -/
theorem witness_DecimalAdjustCorrectsBcd :
    (99 < 100) ∧ (withAFB (bcd 99) 0 (bcd 1)).a = bcd 99 ∧ (withAFB (bcd 99) 0 (bcd 1)).b = bcd 1 ∧
    (after (exec .daa (after (exec .add_A_B (withAFB (bcd 99) 0 (bcd 1)))))).a = 0 := by decide
/-- O47 to O50: every condition met and not met. -/
theorem witness_conditions :
    (CondMet .nz (withAFB 0 0x00 0) ∧ ¬ CondMet .nz (withAFB 0 0x80 0)) ∧ (CondMet .z (withAFB 0 0x80 0) ∧ ¬ CondMet .z (withAFB 0 0x70 0)) ∧
    (CondMet .nc (withAFB 0 0xE0 0) ∧ ¬ CondMet .nc (withAFB 0 0x10 0)) ∧ (CondMet .c (withAFB 0 0x10 0) ∧ ¬ CondMet .c (withAFB 0 0xE0 0)) := by
  simp only [CondMet]; decide
/-- O53: a CPU that has met an unassigned opcode. -/
theorem witness_IllegalOpcodesSetTheFault :
    (after (exec .illegal_FD State.reset)).fault = some (.illegalOpcode (unassignedOp .xFD)) := by decide

/-- O54: addresses that no write at 0xC000 reaches, plain storage at the ends of its areas, and each range's ends. -/
theorem witness_BusStorageAndReach_reach :
    storeReach 0xC000 0xC001 = false ∧ storeReach 0xC000 0xDFFF = false ∧ storeReach 0xC000 0xE000 = true ∧ storeReach 0x8000 0x8001 = false := by
  decide
theorem witness_BusStorageAndReach_plain :
    (plainStorage State.reset 0x8000 = true ∧ plainStorage State.reset 0x9FFF = true ∧ plainStorage State.reset 0xA000 = true ∧
      plainStorage State.reset 0xBFFF = true ∧ plainStorage State.reset 0xC000 = true ∧ plainStorage State.reset 0xFDFF = true ∧
      plainStorage State.reset 0xFE00 = true ∧ plainStorage State.reset 0xFE9F = true ∧ plainStorage State.reset 0xFF80 = true ∧
      plainStorage State.reset 0xFFFF = true) ∧ plainStorage busy 0x8000 = false := by decide
theorem witness_BusStorageAndReach_ranges :
    busRead 0xE000 (busWrite 0xC000 0x5A State.reset) = 0x5A ∧ busRead 0xFDFF (busWrite 0xDDFF 0x5A State.reset) = 0x5A ∧
    busRead 0xFEA0 busy = 0 ∧ busRead 0xFEFF busy = 0 ∧ busy.dma.active = true ∧ busRead 0x8000 busy = 0xFF ∧ busRead 0x9FFF busy = 0xFF ∧
    busRead 0xFE00 busy = 0xFF ∧ busRead 0xFE9F busy = 0xFF := by decide
/-- O55: unmapped I/O at the ends of its ranges. -/
theorem witness_IoRegistersReadBack :
    busRead 0xFF03 busy = 0xFF ∧ busRead 0xFF08 busy = 0xFF ∧ busRead 0xFF3F busy = 0xFF ∧ busRead 0xFF4C busy = 0xFF ∧
    busRead 0xFF7F busy = 0xFF := by decide
/-- O55: a button of a selected group, pressed; a press and a release, and the same value again. -/
theorem witness_IoRegistersReadBack_buttons :
    let s := { busy with buttons := { Buttons.released with right := true } }
    busRead 0xFF00 (busWrite 0xFF00 0x20 s) = 0xEE ∧ busRead 0xFF00 (busWrite 0xFF00 0x10 s) = 0xDF ∧
    isPressed .right s.buttons = true ∧ isPressed .start s.buttons ≠ true ∧ (pressButton .start true s).ifReg = 0b10101 ∧
    (pressButton .right false s).ifReg = 0b10101 ∧ (pressButton .right true s).ifReg = 0b00101 := by decide
/-- O56: the first and the last byte of a transfer; no transfer. -/
theorem witness_DmaCopiesOneByteATick :
    busy.dma.active = true ∧ DmaOk busy.dma ∧ (dmaPart busy).dma = ⟨false, 0xC0, 160⟩ ∧
    DmaOk ⟨true, 0xC0, 0⟩ ∧ (dmaPart { busy with dma := ⟨true, 0xC0, 0⟩ }).dma = ⟨true, 0xC0, 1⟩ ∧
    Store.read (dmaPart { busy with dma := ⟨true, 0xC0, 0⟩ }).ppu.oam 0 = 0x3C ∧ State.reset.dma.active = false := by
  exact ⟨by decide, ⟨by decide, by decide⟩, by decide, ⟨by decide, by decide⟩, by decide, by decide, by decide⟩
/-- O57: a state in which TIMA counts and overflows. -/
theorem witness_TimerCounts :
    let t : Timer := ⟨0x03FF, 0xFF, 0x10, 0b100⟩
    t.tac.getLsbD 2 = true ∧ (t.div16.toNat + 1) % 1024 = 0 ∧ (timerPart { busy with timer := t }).timer.tima = 0x10 ∧
    (timerPart { busy with timer := t, ifReg := 0 }).ifReg = 0b00100 := by decide
/-- O58: both ends of each range of the registers of each MBC; and a write that latches the clock. -/
theorem witness_BankRegisterWrites_mbc0 : State.reset.cart.mbc = .mbc0 ∧ (busWrite 0x7FFF 0xFF State.reset).cart = State.reset.cart := by decide
theorem witness_BankRegisterWrites_mbc1 :
    let s := withMbcOf (.mbc1 ⟨false, 3, 2, 0⟩)
    s.cart.mbc = .mbc1 ⟨false, 3, 2, 0⟩ ∧
    (busWrite 0x0000 0x1A s).cart.mbc = .mbc1 ⟨true, 3, 2, 0⟩ ∧ (busWrite 0x1FFF 0x0A s).cart.mbc = .mbc1 ⟨true, 3, 2, 0⟩ ∧
    (busWrite 0x2000 0x60 s).cart.mbc = .mbc1 ⟨false, 1, 2, 0⟩ ∧ (busWrite 0x3FFF 0xFF s).cart.mbc = .mbc1 ⟨false, 31, 2, 0⟩ ∧
    (busWrite 0x4000 0x03 s).cart.mbc = .mbc1 ⟨false, 3, 3, 0⟩ ∧ (busWrite 0x5FFF 0x04 s).cart.mbc = .mbc1 ⟨false, 3, 0, 0⟩ ∧
    (busWrite 0x6000 0x01 s).cart.mbc = .mbc1 ⟨false, 3, 2, 1⟩ ∧ (busWrite 0x7FFF 0x02 s).cart.mbc = .mbc1 ⟨false, 3, 2, 0⟩ := by decide
theorem witness_BankRegisterWrites_mbc2 :
    let s := withMbcOf (.mbc2 ⟨false, 3⟩)
    (0x0000 : Word).getLsbD 8 = false ∧ (0x3EFF : Word).getLsbD 8 = false ∧ (0x0100 : Word).getLsbD 8 = true ∧ (0x3FFF : Word).getLsbD 8 = true ∧
    (busWrite 0x0000 0x0A s).cart.mbc = .mbc2 ⟨true, 3⟩ ∧ (busWrite 0x3EFF 0xFA s).cart.mbc = .mbc2 ⟨true, 3⟩ ∧
    (busWrite 0x0100 0x00 s).cart.mbc = .mbc2 ⟨false, 1⟩ ∧ (busWrite 0x3FFF 0x1D s).cart.mbc = .mbc2 ⟨false, 13⟩ ∧
    (busWrite 0x4000 0x0A s).cart.mbc = .mbc2 ⟨false, 3⟩ ∧ (busWrite 0x7FFF 0x0A s).cart.mbc = .mbc2 ⟨false, 3⟩ := by decide
theorem witness_BankRegisterWrites_mbc3 :
    let s := withMbcOf (.mbc3 ⟨false, 3, 2, 0xFF, ⟨1, 2, 3, 4, 0⟩⟩)
    (busWrite 0x0000 0x0A s).cart.mbc = .mbc3 ⟨true, 3, 2, 0xFF, ⟨1, 2, 3, 4, 0⟩⟩ ∧
    (busWrite 0x1FFF 0x1A s).cart.mbc = .mbc3 ⟨true, 3, 2, 0xFF, ⟨1, 2, 3, 4, 0⟩⟩ ∧
    (busWrite 0x2000 0x80 s).cart.mbc = .mbc3 ⟨false, 1, 2, 0xFF, ⟨1, 2, 3, 4, 0⟩⟩ ∧
    (busWrite 0x3FFF 0xFF s).cart.mbc = .mbc3 ⟨false, 0x7F, 2, 0xFF, ⟨1, 2, 3, 4, 0⟩⟩ ∧
    (busWrite 0x4000 0x1C s).cart.mbc = .mbc3 ⟨false, 3, 0xC, 0xFF, ⟨1, 2, 3, 4, 0⟩⟩ ∧
    (busWrite 0x5FFF 0x08 s).cart.mbc = .mbc3 ⟨false, 3, 8, 0xFF, ⟨1, 2, 3, 4, 0⟩⟩ ∧
    (busWrite 0x6000 0x01 s).cart.mbc = .mbc3 ⟨false, 3, 2, 0x01, ⟨1, 2, 3, 4, 0⟩⟩ ∧
    (busWrite 0x7FFF 0x00 s).cart.mbc = .mbc3 ⟨false, 3, 2, 0x00, ⟨1, 2, 3, 4, 0⟩⟩ := by decide
/-- The hypotheses of the latch clause; and R503's first vector for what a latch captures. -/
theorem witness_BankRegisterWrites_latch :
    let k : Cart := { Cart.blank with timer := true, mbc := .mbc3 ⟨true, 1, 0, 0x00, ⟨0, 0, 0, 0, 0⟩⟩ }
    (k.timer = true ∧ k.mbc = .mbc3 ⟨true, 1, 0, 0x00, ⟨0, 0, 0, 0, 0⟩⟩ ∧ (⟨0, 0, 0, 0, 0⟩ : Rtc).dh.getLsbD 6 = false) ∧
    (busWrite 0x6000 0x01 { State.reset with cart := k }).clockDraws = 1 ∧
    rtcLatch 93784 ⟨0, 0, 0, 0, 0⟩ = ⟨4, 3, 2, 1, 0⟩ := by decide

/-- A battery cartridge of 32 KiB RAM with this MBC, a byte in its RAM and one in its image. -/
def windowed (mbc : Mbc) : State :=
  { State.reset with cart := { Cart.blank with ramCode := 3, battery := true, timer := true, mbc := mbc, cram := [(0x1FFF, 0x0A)], rom := [(0x3FFF, 0x11), (0x7FFF, 0x22)] } }

/-- O58: the ROM windows at their ends, and a bank beyond the image. -/
theorem witness_BankRegisterWrites_romWindows :
    let s := windowed (.mbc1 ⟨false, 1, 0, 0⟩)
    busRead 0x0000 s = 0 ∧ busRead 0x3FFF s = 0x11 ∧ busRead 0x4000 s = 0 ∧ busRead 0x7FFF s = 0x22 ∧
    busRead 0x7FFF (windowed (.mbc2 ⟨false, 2⟩)) = 0xFF ∧ busRead 0x7FFF (windowed (.mbc3 ⟨false, 1, 0, 0, ⟨0, 0, 0, 0, 0⟩⟩)) = 0x22 := by decide
/-- O58: the RAM window at its ends: MBC0; MBC1 enabled, beyond its RAM's size, and disabled; MBC2 enabled and disabled. -/
theorem witness_BankRegisterWrites_ramWindow :
    busRead 0xBFFF (windowed .mbc0) = 0x0A ∧ busRead 0xA000 (windowed .mbc0) = 0 ∧
    busRead 0xBFFF (windowed (.mbc1 ⟨true, 1, 0, 1⟩)) = 0x0A ∧ busRead 0xBFFF (windowed (.mbc1 ⟨true, 1, 1, 1⟩)) = 0 ∧
    busRead 0xBFFF { windowed (.mbc1 ⟨true, 1, 1, 1⟩) with cart := { (windowed (.mbc1 ⟨true, 1, 1, 1⟩)).cart with ramCode := 2 } } = 0xFF ∧
    busRead 0xBFFF (windowed (.mbc1 ⟨false, 1, 0, 1⟩)) = 0xFF ∧
    busRead 0xA000 (windowed (.mbc2 ⟨true, 1⟩)) = 0xF0 ∧ busRead 0xBFFF (windowed (.mbc2 ⟨false, 1⟩)) = 0xFF := by decide
/-- O58: MBC3's window: RAM, each clock register, the codes that name nothing, and disabled. -/
theorem witness_BankRegisterWrites_mbc3Window :
    let s (on : Bool) (sel : BitVec 4) := windowed (.mbc3 ⟨on, 1, sel, 0, ⟨1, 2, 3, 4, 0xC1⟩⟩)
    busRead 0xBFFF (s true 0x0) = 0x0A ∧ busRead 0xBFFF (s true 0x3) = 0 ∧ busRead 0xBFFF (s true 0x4) = 0xFF ∧
    busRead 0xBFFF (s true 0x7) = 0xFF ∧ busRead 0xA000 (s true 0x8) = 1 ∧ busRead 0xA000 (s true 0x9) = 2 ∧ busRead 0xA000 (s true 0xA) = 3 ∧
    busRead 0xA000 (s true 0xB) = 4 ∧ busRead 0xBFFF (s true 0xC) = 0xC1 ∧ busRead 0xA000 (s true 0xD) = 0xFF ∧
    busRead 0xA000 (s false 0x0) = 0xFF ∧ (busWrite 0xA000 0xFF (s true 0x8)).cart.mbc = .mbc3 ⟨true, 1, 0x8, 0, ⟨0x3F, 2, 3, 4, 0xC1⟩⟩ := by decide

/-- O59: the PPU's part of a tick in the machine: both requests reach IF. -/
theorem witness_PpuTransitionsAndRequests_if :
    let p : Ppu := { Ppu.reset with mode := .hblank, ly := 143, lineDot := 455, statEnables := 0b0010 }
    (ppuPart { State.reset with ppu := p, ifReg := 0 }).ifReg = 0b00011 := by decide
/-- O59: the three transitions with their requests, and a dot without any. -/
theorem witness_PpuTransitionsAndRequests_vblank :
    let p : Ppu := { Ppu.reset with mode := .hblank, ly := 143, lineDot := 455, statEnables := 0b0010 }
    (ppuTick p).1.mode = .vblank ∧ (ppuTick p).2 = ⟨true, true⟩ ∧ (ppuTick p).1.frameCount = 1 := by decide
theorem witness_PpuTransitionsAndRequests_oamScan :
    let p : Ppu := { Ppu.reset with mode := .vblank, ly := 153, lineDot := 455, statEnables := 0b0100 }
    let q : Ppu := { p with mode := .hblank, ly := 10 }
    (ppuTick p).1.mode = .oamScan ∧ (ppuTick p).2 = ⟨false, true⟩ ∧ (ppuTick q).1.mode = .oamScan ∧ (ppuTick q).2 = ⟨false, true⟩ := by decide
theorem witness_PpuTransitionsAndRequests_hblank :
    let p : Ppu := { drawing with lineDot := 200, lyc := 143, statEnables := 0b1000 }
    (ppuTick p).1.mode = .hblank ∧ (ppuTick p).2 = ⟨false, true⟩ ∧ (ppuTick p).1.coincidence = true ∧
    (ppuTick Ppu.reset).2 = ⟨false, false⟩ := by decide

/-- Eleven sprites on line 0, the last ones with the smallest X. -/
def elevenSprites : Ppu :=
  { Ppu.reset with
    oam := [(0, 16), (1, 90), (4, 16), (5, 80), (8, 16), (9, 80), (12, 16), (13, 60), (16, 16), (17, 50), (20, 16), (21, 40),
      (24, 16), (25, 30), (28, 16), (29, 20), (32, 16), (33, 10), (36, 16), (37, 5), (40, 16), (41, 1)] }

/-- O60: ten of eleven are taken, by X, equal X in OAM order (62_ppu.md R430). -/
theorem witness_SpriteSelection : (scanOam elevenSprites).candidates.map (·.index) = [9, 8, 7, 6, 5, 4, 3, 1, 2, 0] := by decide

end Sys2Proof.Tests
end

section
/-! What a read gives after a bus write (20_memory.md R71 to R84): every address that the write does not reach reads as before, and
plain storage reads back what was written. Then the stack (00_scope.md R11): O20. -/

namespace Sys2Proof.Machine

/-! ## The address map (20_memory.md R71) -/

/-- The first address of a region. -/
def Region.first : Region → Nat
  | .cartRom => 0x0000
  | .vram => 0x8000
  | .cartRam => 0xA000
  | .wram => 0xC000
  | .echo => 0xE000
  | .oam => 0xFE00
  | .unusable => 0xFEA0
  | .io => 0xFF00
  | .hram => 0xFF80
  | .ie => 0xFFFF

/-- The address after the last one of a region. -/
def Region.limit : Region → Nat
  | .cartRom => 0x8000
  | .vram => 0xA000
  | .cartRam => 0xC000
  | .wram => 0xE000
  | .echo => 0xFE00
  | .oam => 0xFEA0
  | .unusable => 0xFF00
  | .io => 0xFF80
  | .hram => 0xFFFF
  | .ie => 0x10000

theorem regionOf_bounds {a : Word} {r : Region} (h : regionOf a = r) : r.first ≤ a.toNat ∧ a.toNat < r.limit := by
  subst h
  unfold regionOf
  dsimp only
  have := a.isLt
  split_ifs <;> simp only [Region.first, Region.limit] <;> omega

/-! ## The registers of the I/O page (20_memory.md R80, R81) -/

/-- The offset of an I/O register in its page. -/
def ioOffset : IoReg → Nat
  | .joyp => 0x00 | .sb => 0x01 | .sc => 0x02 | .div => 0x04 | .tima => 0x05 | .tma => 0x06 | .tac => 0x07 | .ifr => 0x0F
  | .lcdc => 0x40 | .stat => 0x41 | .scy => 0x42 | .scx => 0x43 | .ly => 0x44 | .lyc => 0x45 | .dma => 0x46 | .bgp => 0x47
  | .obp0 => 0x48 | .obp1 => 0x49 | .wy => 0x4A | .wx => 0x4B

theorem toNat_of_ioRegAt {off : Byte} {g : IoReg} (h : ioRegAt off = some g) : off.toNat = ioOffset g := by
  unfold ioRegAt at h
  split at h <;> cases h <;> assumption

/-- In the I/O page the low byte of an address is its offset. -/
theorem toNat_of_ioRegAt_loByte {a : Word} {g : IoReg} (ha : regionOf a = .io) (h : ioRegAt (loByte a) = some g) :
    a.toNat = 0xFF00 + ioOffset g := by
  have hlow : (loByte a).toNat = a.toNat % 256 := by simp [loByte]
  have : 0xFF00 ≤ a.toNat ∧ a.toNat < 0xFF80 := regionOf_bounds ha
  have := toNat_of_ioRegAt h
  omega

theorem ioRead_ioWrite_other {g g' : IoReg} (h : g ≠ g') (v : Byte) (s : State) : ioRead g' (ioWrite g v s) = ioRead g' s := by
  cases g <;> cases g' <;> try rfl
  all_goals exact absurd rfl h

/-- Writing an I/O register changes no memory; the DMA register's write may mask VRAM and OAM (61_timer_dma_io.md R390). -/
theorem busRead_ioWrite_of_memory {x : Word} {g : IoReg} (v : Byte) (s : State) (hio : regionOf x ≠ .io)
    (hdma : g = .dma → regionOf x ≠ .vram ∧ regionOf x ≠ .oam) : busRead x (ioWrite g v s) = busRead x s := by
  unfold busRead readWithMask
  cases hx : regionOf x
  case io => exact absurd hx hio
  case vram =>
    cases g
    case dma => exact absurd hx (hdma rfl).1
    all_goals rfl
  case oam =>
    cases g
    case dma => exact absurd hx (hdma rfl).2
    all_goals rfl
  all_goals cases g <;> rfl

/-! ## The cartridge -/

/-- A write to the RAM window moves no ROM bank (63_cartridge_mbc.md R474). -/
theorem cartWrite_ramWindow_romOffset (t : Nat) (k : Cart) {a : Nat} (v : Byte) (ha : 0x8000 ≤ a) :
    romOffset (cartWrite t k a v).cart.mbc = romOffset k.mbc := by
  unfold cartWrite
  rw [if_neg (by omega)]
  split
  · rfl
  · split
    · unfold rtcAreaWrite
      split
      · rename_i hk
        rw [hk]
        rfl
      · rfl
    · rfl

theorem cartRead_cartWrite_rom (t : Nat) (k : Cart) {a x : Nat} (v : Byte) (ha : 0x8000 ≤ a) (hx : x < 0x8000) :
    cartRead (cartWrite t k a v).cart x = cartRead k x := by
  obtain ⟨hrom, hlen, hcode, -⟩ := cartWrite_rom t k a v
  unfold cartRead romByte romSize
  rw [if_pos hx, if_pos hx, hrom, hlen, hcode, cartWrite_ramWindow_romOffset t k v ha]

theorem cartWrite_mbc0 (t : Nat) (k : Cart) {a : Nat} (v : Byte) (hk : k.mbc = .mbc0) (ha : 0x8000 ≤ a) :
    cartWrite t k a v = .stored k (a - 0xA000) v := by
  simp only [cartWrite, if_neg (Nat.not_lt.2 ha), cramCell, hk, cramWriteMask]

/-- Without an MBC the RAM window shows the storage as it is (63_cartridge_mbc.md R475). -/
theorem cartRead_mbc0 (k : Cart) {x : Nat} (hk : k.mbc = .mbc0) (hx : 0x8000 ≤ x) :
    cartRead k x = Store.read k.cram (x - 0xA000) := by
  simp only [cartRead, if_neg (Nat.not_lt.2 hx), cramCell, hk, cramReadMask]

theorem cartRead_cartWrite_mbc0 (t : Nat) (k : Cart) {a x : Nat} (v : Byte) (hk : k.mbc = .mbc0) (ha : 0x8000 ≤ a)
    (hx : 0x8000 ≤ x) :
    cartRead (cartWrite t k a v).cart x = if a - 0xA000 = x - 0xA000 then v else cartRead k x := by
  rw [cartWrite_mbc0 t k v hk ha, cartRead_mbc0 k hk hx]
  exact (cartRead_mbc0 (CartStep.stored k (a - 0xA000) v).cart hk hx).trans (Store.read_write ..)

theorem busRead_cartWriteBus_of_not_cart {x : Word} (n : Nat) (v : Byte) (s : State) (hrom : regionOf x ≠ .cartRom)
    (hram : regionOf x ≠ .cartRam) : busRead x (cartWriteBus n v s) = busRead x s := by
  unfold busRead readWithMask
  cases hx : regionOf x
  case cartRom => exact absurd hx hrom
  case cartRam => exact absurd hx hram
  all_goals rfl

/-! ## A write does not change what it does not reach, region by region -/

section Reach

variable {a x : Word} {v : Byte} {s : State}

theorem busWrite_cart (ha : regionOf a = .cartRom ∨ regionOf a = .cartRam) : busWrite a v s = cartWriteBus a.toNat v s := by
  unfold busWrite
  rcases ha with ha | ha <;> rw [ha]

theorem busRead_cart (hx : regionOf x = .cartRom ∨ regionOf x = .cartRam) : busRead x s = cartRead s.cart x.toNat := by
  unfold busRead readWithMask
  rcases hx with hx | hx <;> rw [hx]

theorem busRead_busWrite_cartRom_other (ha : regionOf a = .cartRom) (hrom : regionOf x ≠ .cartRom)
    (hram : regionOf x ≠ .cartRam) : busRead x (busWrite a v s) = busRead x s := by
  rw [busWrite_cart (.inl ha)]
  exact busRead_cartWriteBus_of_not_cart _ _ _ hrom hram

theorem busRead_busWrite_cartRam_other (ha : regionOf a = .cartRam) (hram : regionOf x ≠ .cartRam) :
    busRead x (busWrite a v s) = busRead x s := by
  rw [busWrite_cart (.inr ha)]
  by_cases hrom : regionOf x = .cartRom
  · have ha' : 0xA000 ≤ a.toNat ∧ a.toNat < 0xC000 := regionOf_bounds ha
    rw [busRead_cart (.inl hrom), busRead_cart (.inl hrom)]
    exact cartRead_cartWrite_rom _ s.cart v (by omega) (regionOf_bounds hrom).2
  · exact busRead_cartWriteBus_of_not_cart _ _ _ hrom hram

/-- A write into a region's own array leaves the region's other bytes. -/
theorem read_write_offset_other {base : Nat} (m : Memory) (v : Byte) (ha : base ≤ a.toNat) (hx : base ≤ x.toNat) (hne : x ≠ a) :
    Store.read (Store.write m (a.toNat - base) v) (x.toNat - base) = Store.read m (x.toNat - base) := by
  have : x.toNat ≠ a.toNat := fun e => hne (BitVec.eq_of_toNat_eq e)
  exact Store.read_write_other m (by omega) v

theorem busRead_busWrite_vram_other (ha : regionOf a = .vram) (hne : x ≠ a) : busRead x (busWrite a v s) = busRead x s := by
  simp only [busWrite, ha]
  split
  · rfl
  · rename_i hdma
    unfold busRead readWithMask
    cases hx : regionOf x
    case vram =>
      simp only [if_neg hdma]
      exact read_write_offset_other s.ppu.vram v (regionOf_bounds ha).1 (regionOf_bounds hx).1 hne
    all_goals rfl

theorem busRead_busWrite_oam_other (ha : regionOf a = .oam) (hne : x ≠ a) : busRead x (busWrite a v s) = busRead x s := by
  simp only [busWrite, ha]
  split
  · rfl
  · rename_i hdma
    unfold busRead readWithMask
    cases hx : regionOf x
    case oam =>
      simp only [if_neg hdma]
      exact read_write_offset_other s.ppu.oam v (regionOf_bounds ha).1 (regionOf_bounds hx).1 hne
    all_goals rfl

theorem busRead_busWrite_hram_other (ha : regionOf a = .hram) (hne : x ≠ a) : busRead x (busWrite a v s) = busRead x s := by
  simp only [busWrite, ha]
  unfold busRead readWithMask
  cases hx : regionOf x
  case hram => exact read_write_offset_other s.hram v (regionOf_bounds ha).1 (regionOf_bounds hx).1 hne
  all_goals rfl

theorem busRead_busWrite_ie_other (ha : regionOf a = .ie) (hne : x ≠ a) : busRead x (busWrite a v s) = busRead x s := by
  simp only [busWrite, ha]
  unfold busRead readWithMask
  cases hx : regionOf x
  case ie =>
    have ha' : 0xFFFF ≤ a.toNat ∧ a.toNat < 0x10000 := regionOf_bounds ha
    have hx' : 0xFFFF ≤ x.toNat ∧ x.toNat < 0x10000 := regionOf_bounds hx
    exact absurd (BitVec.eq_of_toNat_eq (by omega)) hne
  all_goals rfl

/-- The cell of WRAM that an address of WRAM or of its mirror names (20_memory.md R77). -/
theorem busRead_wram (hx : regionOf x = .wram ∨ regionOf x = .echo) : busRead x s = Store.read s.wram (x.toNat % 8192) := by
  unfold busRead readWithMask
  rcases hx with hx | hx
  · have hb : 0xC000 ≤ x.toNat ∧ x.toNat < 0xE000 := regionOf_bounds hx
    have hcell : x.toNat - 0xC000 = x.toNat % 8192 := by omega
    rw [hx, ← hcell]
  · have hb : 0xE000 ≤ x.toNat ∧ x.toNat < 0xFE00 := regionOf_bounds hx
    have hcell : x.toNat - 0xE000 = x.toNat % 8192 := by omega
    rw [hx, ← hcell]

theorem busWrite_wram (ha : regionOf a = .wram ∨ regionOf a = .echo) :
    busWrite a v s = { s with wram := Store.write s.wram (a.toNat % 8192) v } := by
  unfold busWrite
  rcases ha with ha | ha
  · have hb : 0xC000 ≤ a.toNat ∧ a.toNat < 0xE000 := regionOf_bounds ha
    have hcell : a.toNat - 0xC000 = a.toNat % 8192 := by omega
    rw [ha, ← hcell]
  · have hb : 0xE000 ≤ a.toNat ∧ a.toNat < 0xFE00 := regionOf_bounds ha
    have hcell : a.toNat - 0xE000 = a.toNat % 8192 := by omega
    rw [ha, ← hcell]

theorem busRead_busWrite_wram_other (ha : regionOf a = .wram ∨ regionOf a = .echo)
    (hcell : regionOf x = .wram ∨ regionOf x = .echo → a.toNat % 8192 ≠ x.toNat % 8192) :
    busRead x (busWrite a v s) = busRead x s := by
  rw [busWrite_wram ha]
  by_cases hx : regionOf x = .wram ∨ regionOf x = .echo
  · rw [busRead_wram hx, busRead_wram hx]
    exact Store.read_write_other _ (hcell hx) v
  · unfold busRead readWithMask
    cases hr : regionOf x
    case wram => exact absurd (.inl hr) hx
    case echo => exact absurd (.inr hr) hx
    all_goals rfl

theorem busRead_busWrite_io_other (ha : regionOf a = .io) (hne : x ≠ a)
    (hdma : a = 0xFF46 → regionOf x ≠ .vram ∧ regionOf x ≠ .oam) : busRead x (busWrite a v s) = busRead x s := by
  simp only [busWrite, ha]
  cases hg : ioRegAt (loByte a) with
  | none => rfl
  | some g =>
    have hga := toNat_of_ioRegAt_loByte ha hg
    by_cases hx : regionOf x = .io
    · unfold busRead readWithMask
      rw [hx]
      dsimp only
      cases hg' : ioRegAt (loByte x) with
      | none => rfl
      | some g' =>
        have hgx := toNat_of_ioRegAt_loByte hx hg'
        have hgg : g ≠ g' := by
          rintro rfl
          exact hne (BitVec.eq_of_toNat_eq (by omega))
        exact ioRead_ioWrite_other hgg v s
    · refine busRead_ioWrite_of_memory v s hx fun hd => hdma ?_
      subst hd
      exact BitVec.eq_of_toNat_eq hga

/-- A bus write leaves every byte that it does not reach. -/
theorem busRead_busWrite_of_not_reached (h : storeReach a x = false) : busRead x (busWrite a v s) = busRead x s := by
  unfold storeReach at h
  cases ha : regionOf a <;> simp only [ha] at h
  case cartRom =>
    obtain ⟨hrom, hram⟩ : regionOf x ≠ .cartRom ∧ regionOf x ≠ .cartRam := by simpa using h
    exact busRead_busWrite_cartRom_other ha hrom hram
  case vram => exact busRead_busWrite_vram_other ha (by simpa using h)
  case cartRam => exact busRead_busWrite_cartRam_other ha (by simpa using h)
  case wram => exact busRead_busWrite_wram_other (.inl ha) (by simpa using h)
  case echo => exact busRead_busWrite_wram_other (.inr ha) (by simpa using h)
  case oam => exact busRead_busWrite_oam_other ha (by simpa using h)
  case unusable => simp only [busWrite, ha]
  case io =>
    obtain ⟨hne, hdma⟩ : x ≠ a ∧ (a = 0xFF46 → regionOf x ≠ .vram ∧ regionOf x ≠ .oam) := by simpa using h
    exact busRead_busWrite_io_other ha hne hdma
  case hram => exact busRead_busWrite_hram_other ha (by simpa using h)
  case ie => exact busRead_busWrite_ie_other ha (by simpa using h)

/-! ## Plain storage -/

theorem busRead_busWrite_plain (h : plainStorage s a = true) : busRead a (busWrite a v s) = v := by
  unfold plainStorage at h
  cases ha : regionOf a <;> rw [ha] at h <;> dsimp only at h
  case cartRom => cases h
  case unusable => cases h
  case io => cases h
  case wram => exact busRead_busWrite_wram a v s (.inl ha)
  case echo => exact busRead_busWrite_wram a v s (.inr ha)
  case hram => exact busRead_busWrite_hram a v s ha
  case cartRam =>
    have hb : 0xA000 ≤ a.toNat ∧ a.toNat < 0xC000 := regionOf_bounds ha
    rw [busWrite_cart (.inr ha), busRead_cart (.inr ha)]
    exact (cartRead_cartWrite_mbc0 _ s.cart v (eq_of_beq h) (by omega) (by omega)).trans (if_pos rfl)
  case vram =>
    have hdma : s.dma.active = false := by simpa using h
    simp [busRead, busWrite, readWithMask, ha, hdma]
  case oam =>
    have hdma : s.dma.active = false := by simpa using h
    simp [busRead, busWrite, readWithMask, ha, hdma]
  case ie => simp [busRead, busWrite, readWithMask, ha]

/-- Outside cartridge RAM, plain storage is reached under its own address and the mirrored one only. -/
theorem storeReach_plain (ha : plainStorage s a = true) (hram : regionOf a ≠ .cartRam)
    (hcell : a.toNat % 8192 ≠ x.toNat % 8192) : storeReach a x = false := by
  have hne : x ≠ a := by rintro rfl; exact hcell rfl
  unfold plainStorage at ha
  unfold storeReach
  cases hr : regionOf a <;> simp only [hr] at ha hram ⊢
  case cartRom => cases ha
  case cartRam => exact absurd rfl hram
  case io => cases ha
  all_goals simp [hne, hcell]

/-- A write into plain storage leaves every byte of another cell, in cartridge RAM too. -/
theorem busRead_busWrite_plain_other (ha : plainStorage s a = true) (hcell : a.toNat % 8192 ≠ x.toNat % 8192) :
    busRead x (busWrite a v s) = busRead x s := by
  by_cases hram : regionOf a = .cartRam
  · by_cases hx : regionOf x = .cartRam
    · have hmbc : s.cart.mbc = .mbc0 := by simpa [plainStorage, hram] using ha
      have hba : 0xA000 ≤ a.toNat ∧ a.toNat < 0xC000 := regionOf_bounds hram
      have hbx : 0xA000 ≤ x.toNat ∧ x.toNat < 0xC000 := regionOf_bounds hx
      rw [busWrite_cart (.inr hram), busRead_cart (.inr hx), busRead_cart (.inr hx)]
      exact (cartRead_cartWrite_mbc0 _ s.cart v hmbc (by omega) (by omega)).trans (if_neg (by omega))
    · exact busRead_busWrite_cartRam_other hram hx
  · exact busRead_busWrite_of_not_reached (storeReach_plain ha hram hcell)

/-- A write into plain storage starts no transfer and changes no bank register. -/
theorem busWrite_plain_dma_mbc (v : Byte) (ha : plainStorage s a = true) :
    (busWrite a v s).dma = s.dma ∧ (busWrite a v s).cart.mbc = s.cart.mbc := by
  unfold plainStorage at ha
  cases hr : regionOf a <;> rw [hr] at ha
  case cartRom => cases ha
  case io => cases ha
  case unusable => cases ha
  case cartRam =>
    have hb : 0xA000 ≤ a.toNat ∧ a.toNat < 0xC000 := regionOf_bounds hr
    rw [busWrite_cart (.inr hr)]
    refine ⟨rfl, ?_⟩
    show (cartWrite _ s.cart a.toNat v).cart.mbc = s.cart.mbc
    rw [cartWrite_mbc0 _ s.cart v (eq_of_beq ha) (by omega)]
    rfl
  all_goals
    unfold busWrite
    rw [hr]
  case vram => dsimp only; split <;> exact ⟨rfl, rfl⟩
  case oam => dsimp only; split <;> exact ⟨rfl, rfl⟩
  all_goals exact ⟨rfl, rfl⟩

/-- Plain storage stays plain storage when a byte of it is written. -/
theorem plainStorage_busWrite (x : Word) (v : Byte) (ha : plainStorage s a = true) :
    plainStorage (busWrite a v s) x = plainStorage s x := by
  obtain ⟨hdma, hmbc⟩ := busWrite_plain_dma_mbc v ha
  unfold plainStorage
  rw [hdma, hmbc]

end Reach

/-! ## The stack (00_scope.md R11) -/

/-- A bus write does not look at SP. -/
theorem busWrite_withSp (a sp : Word) (v : Byte) (s : State) : busWrite a v { s with sp := sp } = { busWrite a v s with sp := sp } := by
  unfold busWrite
  cases regionOf a
  case vram => dsimp only; split <;> rfl
  case oam => dsimp only; split <;> rfl
  case io =>
    dsimp only
    cases ioRegAt (loByte a) with
    | none => rfl
    | some g => cases g <;> rfl
  all_goals rfl

theorem withSp_self {t : State} {sp : Word} (h : t.sp = sp) : { t with sp := sp } = t := by
  subst h
  rfl

theorem busRead_withSp (a sp : Word) (s : State) : busRead a { s with sp := sp } = busRead a s :=
  busRead_congr (by constructor <;> rfl) a

/-- `Push16` is two bus writes, the high byte first, and SP two lower. -/
theorem push16_eq (v : Word) (s : State) :
    push16 v s = { busWrite (s.sp - 2) (loByte v) (busWrite (s.sp - 1) (hiByte v) s) with sp := s.sp - 2 } := by
  have hsp : s.sp - 1 - 1 = s.sp - 2 := by bv_omega
  simp only [push16, busWrite_withSp, hsp]

/-- The low byte is read where it was stored last; the high byte's cell, next to it, is another one, so it keeps its byte. -/
theorem popValue_push16 (v : Word) (s : State) (hhi : plainStorage s (s.sp - 1) = true)
    (hlo : plainStorage s (s.sp - 2) = true) : popValue (push16 v s) = v := by
  have hsp : s.sp - 2 + 1 = s.sp - 1 := by bv_omega
  have hcell : (s.sp - 2).toNat % 8192 ≠ (s.sp - 1).toNat % 8192 := by bv_omega
  have hlo' : plainStorage (busWrite (s.sp - 1) (hiByte v) s) (s.sp - 2) = true := by
    rw [plainStorage_busWrite _ _ hhi, hlo]
  rw [push16_eq]
  simp only [popValue, busRead16, busRead_withSp, hsp]
  rw [busRead_busWrite_plain hlo', busRead_busWrite_plain_other hlo' hcell, busRead_busWrite_plain hhi, wordOf_halves]

/-- Settles O20: a push is two bus writes (`push16_eq`), and plain storage gives both bytes back (`popValue_push16`). -/
theorem pushThenPop : Obligations.PushThenPop := by
  unfold Obligations.PushThenPop
  refine ⟨?push, fun s => ⟨rfl, rfl⟩, ?popAfterPush⟩
  case push =>
    rintro v s t rfl
    have hsp : (busWrite (s.sp - 2) (loByte v) (busWrite (s.sp - 1) (hiByte v) s)).sp = s.sp := by
      rw [busWrite_sp, busWrite_sp]
    rw [push16_eq]
    exact ⟨rfl, withSp_self hsp⟩
  case popAfterPush =>
    intro v s hhi hlo
    refine ⟨popValue_push16 v s hhi hlo, ?_⟩
    rw [push16_eq]
    show s.sp - 2 + 2 = s.sp
    bv_omega

end Sys2Proof.Machine
end

section
/-! Every step keeps the invariant of the machine (10_state.md R23, R30, R31, R45, R48, R51; 62_ppu.md R446; 63_cartridge_mbc.md
R474, R490, R510): first what the state's operations keep, then the cartridge and the bus, the instructions, the devices, the
clock: O11. -/

namespace Sys2Proof.Machine

/-! ## Arrays -/

/-- A write inside an array keeps its form and its bound. -/
theorem ArrayOk.write {w n a : Nat} {m : Store w} (h : ArrayOk n m) (ha : a < n) (v : BitVec w) :
    ArrayOk n (Store.write m a v) :=
  ⟨Store.wf_write m a v h.1, Store.below_write m v h.2 ha⟩

/-! ## The CPU's registers -/

/-- Two states agree in everything that the invariant speaks of. -/
structure SameInv (s t : State) : Prop where
  f : t.f = s.f
  cyclesLeft : t.cyclesLeft = s.cyclesLeft
  fault : t.fault = s.fault
  dma : t.dma = s.dma
  wram : t.wram = s.wram
  hram : t.hram = s.hram
  ppu : t.ppu = s.ppu
  cart : t.cart = s.cart
  saved : t.saved = s.saved

section Registers

variable {s t : State}

theorem CpuOk.congr (h : CpuOk s) (hf : t.f = s.f) (hc : t.cyclesLeft = s.cyclesLeft) (hx : t.fault = s.fault) : CpuOk t where
  flags := by rw [hf]; exact h.flags
  cycles := by rw [hc]; exact h.cycles
  fault := by rw [hx]; exact h.fault

theorem Inv.congr (h : Inv s) (e : SameInv s t) : Inv t where
  cpu := h.cpu.congr e.f e.cyclesLeft e.fault
  dma := by rw [e.dma]; exact h.dma
  wram := by rw [e.wram]; exact h.wram
  hram := by rw [e.hram]; exact h.hram
  ppu := by rw [e.ppu]; exact h.ppu
  cart := by rw [e.cart]; exact h.cart
  saved := by unfold SavedOk; rw [e.cart, e.saved]; exact h.saved

theorem setR8_inv (r : R8) (v : Byte) (h : Inv s) : Inv (setR8 r v s) := h.congr (by constructor <;> simp)

theorem setHL_inv (v : Word) (h : Inv s) : Inv (setHL v s) := h.congr (by constructor <;> simp)

theorem setPair_inv (p : R16) (v : Word) (h : Inv s) : Inv (setPair p v s) := h.congr (by constructor <;> simp)

theorem skip_inv (n : Nat) (h : Inv s) : Inv (skip n s) := h.congr (by constructor <;> simp)

theorem popState_inv (h : Inv s) : Inv (popState s) := h.congr (by constructor <;> simp)

theorem withPc_inv (a : Word) (h : Inv s) : Inv { s with pc := a } := h.congr (by constructor <;> rfl)

theorem withSp_inv (a : Word) (h : Inv s) : Inv { s with sp := a } := h.congr (by constructor <;> rfl)

theorem withIme_inv (ime enabling : Bool) (h : Inv s) : Inv { s with ime := ime, imeEnabling := enabling } :=
  h.congr (by constructor <;> rfl)

theorem returnFromInterrupt_inv (h : Inv s) : Inv (returnFromInterrupt s) := h.congr (by constructor <;> rfl)

theorem wake_inv (h : Inv s) : Inv (wake s) := h.congr (by constructor <;> simp)

theorem promote_inv (h : Inv s) : Inv (promote s) := h.congr (by constructor <;> simp)

theorem countTick_inv (h : Inv s) : Inv (countTick s) := h.congr (by constructor <;> simp)

theorem request_inv (i : IntSource) (asked : Bool) (h : Inv s) : Inv (request i asked s) := h.congr (by constructor <;> simp)

theorem setF_inv (v : Byte) (h : Inv s) : Inv (setF v s) :=
  { h with cpu := { h.cpu with flags := setF_low_nibble v s } }

theorem setFlags_inv (z n hf c : Bool) (h : Inv s) : Inv (setFlags z n hf c s) := setF_inv _ h

theorem setOut_inv (o : AluOut) (h : Inv s) : Inv (setOut o s) := setF_inv _ h

theorem setStk_inv (p : R16Stk) (v : Word) (h : Inv s) : Inv (setStk p v s) := by
  cases p
  case af => exact setF_inv _ (setR8_inv .a _ h)
  case bc => exact setPair_inv .bc v h
  case de => exact setPair_inv .de v h
  case hl => exact setHL_inv v h

theorem raiseIllegal_inv (u : Unassigned) (h : Inv s) : Inv (raiseIllegal (unassignedOp u) s) :=
  { h with cpu := { h.cpu with fault := fun op e => ⟨u, by cases e; rfl⟩ } }

/-- One M-cycle passes of an instruction of at most six. -/
theorem burn_inv {n : Nat} (hn : n ≤ 6) (h : Inv s) : Inv (burn { s with cyclesLeft := n }) :=
  { h with cpu := { h.cpu with cycles := Nat.sub_le_sub_right hn 1 } }

end Registers

/-! ## The cartridge (63_cartridge_mbc.md) -/

/-- A remapped bank number is not 0 (R474). -/
theorem remapZero_ne_zero {w : Nat} (hw : 0 < w) (bank : BitVec w) : remapZero bank ≠ 0 := by
  unfold remapZero
  split
  · intro h
    have := congrArg BitVec.toNat h
    simp [Nat.ne_of_gt hw] at this
  · assumption

theorem mbc1Write_bank5 (a : Nat) (v : Byte) {r : Mbc1} (h : r.bank5 ≠ 0) : (mbc1Write a v r).bank5 ≠ 0 := by
  unfold mbc1Write
  split_ifs
  · exact h
  · exact remapZero_ne_zero (by decide) _
  · exact h
  · exact h

theorem mbc2Write_bank4 (a : Nat) (v : Byte) {r : Mbc2} (h : r.bank4 ≠ 0) : (mbc2Write a v r).bank4 ≠ 0 := by
  unfold mbc2Write
  split_ifs
  · exact remapZero_ne_zero (by decide) _
  · exact h
  · exact h

theorem mbc3Write_bank7 (timer : Bool) (t a : Nat) (v : Byte) {r : Mbc3} (h : r.bank7 ≠ 0) :
    (mbc3Write timer t a v r).bank7 ≠ 0 := by
  unfold mbc3Write
  split_ifs
  · exact h
  · exact remapZero_ne_zero (by decide) _
  · exact h
  · exact h
  · exact h

/-- Other registers of the same variant, bank 0 still not selected: the RAM has its size and its cells. -/
theorem CartOk.withMbc {k : Cart} {m : Mbc} (h : CartOk k) (hsize : ramSize (withMbc k m) = ramSize k) (hmbc : MbcOk m)
    (hnibbles : NibblesOk (withMbc k m)) : CartOk (withMbc k m) where
  rom := h.rom
  cram := by rw [hsize]; exact h.cram
  mbc := hmbc
  nibbles := hnibbles

/-- What a cartridge write can do: store into a cell that the RAM window names, or set registers of the variant; it emits the
`Persist()` event where it stores. -/
theorem cartWrite_cases (t : Nat) {k : Cart} (a : Nat) (v : Byte) (h : CartOk k) :
    (∃ off, cramCell k (a - 0xA000) = some off ∧ cartWrite t k a v = .stored k off (cramWriteMask k.mbc v)) ∨
    ∃ m drew, cartWrite t k a v = ⟨withMbc k m, false, drew⟩ ∧ CartOk (withMbc k m) := by
  have hmbc := h.mbc
  have hnibbles := h.nibbles
  unfold cartWrite
  split
  · right
    unfold romAreaWrite
    split <;> rename_i hk <;> simp only [hk, MbcOk, NibblesOk] at hmbc hnibbles
    · exact ⟨k.mbc, false, rfl, h⟩
    · exact ⟨_, _, rfl, h.withMbc (by simp [ramSize, withMbc, hk]) (mbc1Write_bank5 a v hmbc) trivial⟩
    · exact ⟨_, _, rfl, h.withMbc (by simp [ramSize, withMbc, hk]) (mbc2Write_bank4 a v hmbc) hnibbles⟩
    · exact ⟨_, _, rfl, h.withMbc (by simp [ramSize, withMbc, hk]) (mbc3Write_bank7 _ t a v hmbc) trivial⟩
  · split
    · rename_i off hoff
      exact .inl ⟨off, hoff, rfl⟩
    · right
      split
      · unfold rtcAreaWrite
        split
        · rename_i hk
          simp only [hk, MbcOk] at hmbc
          exact ⟨_, _, rfl, h.withMbc (by simp [ramSize, withMbc, hk]) hmbc trivial⟩
        · exact ⟨k.mbc, false, rfl, h⟩
      · exact ⟨k.mbc, false, rfl, h⟩

/-- The RAM window names cells inside the RAM (R475, R482, R490, R501). -/
theorem cramCell_lt_ramSize {k : Cart} {o off : Nat} (ho : o < 0x2000) (h : cramCell k o = some off) : off < ramSize k := by
  unfold cramCell at h
  split at h <;> rename_i hk
  · cases h
    simpa [ramSize, hk] using ho
  · split at h <;> cases h
    rename_i hr
    exact hr.2
  · split at h <;> cases h
    simpa [ramSize, hk] using Nat.mod_lt o (by decide)
  · split at h <;> cases h
    rename_i hr
    exact hr.2.2

/-- What is stored into an MBC2 cell has a high nibble of 0 (R490). -/
theorem NibblesOk.write {k : Cart} (h : NibblesOk k) (off : Nat) (v : Byte) :
    NibblesOk { k with cram := Store.write k.cram off (cramWriteMask k.mbc v) } := by
  unfold NibblesOk at h ⊢
  dsimp only
  split
  · rename_i hk
    simp only [hk, cramWriteMask] at h ⊢
    intro c hc
    rcases Store.mem_write _ _ _ _ hc with rfl | hc
    · show v &&& 0x0F &&& 0xF0 = 0
      rw [BitVec.and_assoc]
      simp
    · exact h c hc
  · trivial

theorem CartOk.store {k : Cart} (h : CartOk k) {off : Nat} (hoff : off < ramSize k) (v : Byte) :
    CartOk { k with cram := Store.write k.cram off (cramWriteMask k.mbc v) } where
  rom := h.rom
  cram := h.cram.write hoff _
  mbc := h.mbc
  nibbles := h.nibbles.write off v

/-! ## The bus (20_memory.md) -/

section Bus

variable {s : State}

/-- A write to the cartridge's ROM area or RAM window. -/
theorem cartWriteBus_inv {a : Nat} (v : Byte) (ha : a - 0xA000 < 0x2000) (h : Inv s) : Inv (cartWriteBus a v s) := by
  unfold cartWriteBus
  rcases cartWrite_cases (Config.hostClockSeconds s.clockDraws) a v h.cart with ⟨off, hoff, e⟩ | ⟨m, drew, e, hm⟩ <;> rw [e]
  · refine { h with cpu := { h.cpu with }, cart := h.cart.store (cramCell_lt_ramSize ha hoff) v, saved := ?_ }
    intro (hb : s.cart.battery = true) x hx
    simpa [applyCart, CartStep.stored, hb, eq_comm] using hx
  · exact { h with cpu := { h.cpu with }, cart := hm }

theorem ioWrite_inv (g : IoReg) (v : Byte) (h : Inv s) : Inv (ioWrite g v s) := by
  cases g
  case dma => exact { h with cpu := { h.cpu with }, dma := ⟨Nat.zero_le _, fun _ => (by decide : 0 < 160)⟩ }
  all_goals exact { h with cpu := { h.cpu with }, ppu := { h.ppu with } }

theorem busWrite_inv (a : Word) (v : Byte) (h : Inv s) : Inv (busWrite a v s) := by
  unfold busWrite
  cases ha : regionOf a <;> have hb := regionOf_bounds ha <;> simp only [Region.first, Region.limit] at hb <;> dsimp only
  case cartRom => exact cartWriteBus_inv v (by omega) h
  case cartRam => exact cartWriteBus_inv v (by omega) h
  case vram =>
    split
    · exact h
    · exact { h with cpu := { h.cpu with }, ppu := { h.ppu with vram := h.ppu.vram.write (by omega) v } }
  case oam =>
    split
    · exact h
    · exact { h with cpu := { h.cpu with }, ppu := { h.ppu with oam := h.ppu.oam.write (by omega) v } }
  case wram => exact { h with cpu := { h.cpu with }, wram := h.wram.write (by omega) v }
  case echo => exact { h with cpu := { h.cpu with }, wram := h.wram.write (by omega) v }
  case hram => exact { h with cpu := { h.cpu with }, hram := h.hram.write (by omega) v }
  case unusable => exact h
  case ie => exact { h with cpu := { h.cpu with } }
  case io =>
    split
    · exact ioWrite_inv _ v h
    · exact h

theorem push16_inv (v : Word) (h : Inv s) : Inv (push16 v s) :=
  busWrite_inv _ _ (withSp_inv _ (busWrite_inv _ _ (withSp_inv _ h)))

theorem takeInterrupt_inv (i : IntSource) (h : Inv s) : Inv (takeInterrupt i s) :=
  withPc_inv _ (push16_inv _ (h.congr (by constructor <;> rfl)))

theorem operandSideEffect_inv (o : Operand8) (h : Inv s) : Inv (operandSideEffect o s) := by
  unfold operandSideEffect
  split
  · exact setHL_inv _ h
  · exact setHL_inv _ h
  · exact h

theorem operandWrite_inv (o : Operand8) (v : Byte) (h : Inv s) : Inv (operandWrite o v s) := by
  cases o
  case imm => exact h
  case reg r => exact setR8_inv r v h
  case hlInc => exact operandSideEffect_inv .hlInc (busWrite_inv _ v h)
  case hlDec => exact operandSideEffect_inv .hlDec (busWrite_inv _ v h)
  all_goals exact busWrite_inv _ v h

end Bus

/-! ## The instructions -/

/-- The instruction completes in at most six M-cycles (30_encoding.md R137), and but for their count the invariant holds. -/
def EndsWell (r : Result) : Prop := ∃ n t, r = done n t ∧ n ≤ 6 ∧ Inv t

section Instructions

variable {s : State}

theorem done_endsWell {n : Nat} (h : Inv s) (hn : n ≤ 6 := by decide) : EndsWell (done n s) := ⟨n, s, rfl, hn, h⟩

theorem load8_endsWell (dst src : Operand8) (len : Nat) {cycles : Nat} (h : Inv s) (hc : cycles ≤ 6 := by decide) :
    EndsWell (load8 dst src len cycles s) :=
  done_endsWell (operandWrite_inv _ _ (operandSideEffect_inv _ (skip_inv len h))) hc

theorem load16Imm_endsWell (p : R16) (nn : Word) (h : Inv s) : EndsWell (load16Imm p nn s) :=
  done_endsWell (setPair_inv p nn (skip_inv 3 h))

theorem storeSp_endsWell (nn : Word) (h : Inv s) : EndsWell (storeSp nn s) :=
  done_endsWell (busWrite_inv _ _ (busWrite_inv _ _ (skip_inv 3 h)))

theorem loadSpHl_endsWell (h : Inv s) : EndsWell (loadSpHl s) := done_endsWell (withSp_inv _ (skip_inv 1 h))

theorem loadHlSpE_endsWell (e : Byte) (h : Inv s) : EndsWell (loadHlSpE e s) :=
  done_endsWell (setFlags_inv _ _ _ _ (setHL_inv _ (skip_inv 2 h)))

theorem pushPair_endsWell (p : R16Stk) (h : Inv s) : EndsWell (pushPair p s) := done_endsWell (push16_inv _ (skip_inv 1 h))

theorem popPair_endsWell (p : R16Stk) (h : Inv s) : EndsWell (popPair p s) :=
  done_endsWell (setStk_inv p _ (popState_inv (skip_inv 1 h)))

theorem alu8_endsWell (op : AluOp) (src : Operand8) (len : Nat) {cycles : Nat} (h : Inv s) (hc : cycles ≤ 6 := by decide) :
    EndsWell (alu8 op src len cycles s) := by
  refine done_endsWell (setOut_inv _ ?_) hc
  split
  · exact setR8_inv .a _ (skip_inv len h)
  · exact skip_inv len h

theorem modify8_endsWell (op : Byte → Bool → AluOut) (dst : Operand8) (len : Nat) {cycles : Nat} (h : Inv s)
    (hc : cycles ≤ 6 := by decide) : EndsWell (modify8 op dst len cycles s) :=
  done_endsWell (setOut_inv _ (operandWrite_inv dst _ (skip_inv len h))) hc

theorem addHlPair_endsWell (p : R16) (h : Inv s) : EndsWell (addHlPair p s) :=
  done_endsWell (setFlags_inv _ _ _ _ (setHL_inv _ (skip_inv 1 h)))

theorem incPair_endsWell (p : R16) (h : Inv s) : EndsWell (incPair p s) := done_endsWell (setPair_inv p _ (skip_inv 1 h))

theorem decPair_endsWell (p : R16) (h : Inv s) : EndsWell (decPair p s) := done_endsWell (setPair_inv p _ (skip_inv 1 h))

theorem addSpE_endsWell (e : Byte) (h : Inv s) : EndsWell (addSpE e s) :=
  done_endsWell (setFlags_inv _ _ _ _ (withSp_inv _ (skip_inv 2 h)))

theorem rotateA_endsWell (op : RotOp) (h : Inv s) : EndsWell (rotateA op s) :=
  done_endsWell (setFlags_inv _ _ _ _ (setR8_inv .a _ (skip_inv 1 h)))

theorem decimalAdjust_endsWell (h : Inv s) : EndsWell (decimalAdjust s) :=
  done_endsWell (setOut_inv _ (setR8_inv .a _ (skip_inv 1 h)))

theorem complementA_endsWell (h : Inv s) : EndsWell (complementA s) :=
  done_endsWell (setFlags_inv _ _ _ _ (setR8_inv .a _ (skip_inv 1 h)))

theorem carryFlag_endsWell (c : Bool) (h : Inv s) : EndsWell (carryFlag c s) := done_endsWell (setFlags_inv _ _ _ _ (skip_inv 1 h))

theorem testBit8_endsWell (b : Nat) (src : Operand8) {cycles : Nat} (h : Inv s) (hc : cycles ≤ 6 := by decide) :
    EndsWell (testBit8 b src cycles s) :=
  done_endsWell (setFlags_inv _ _ _ _ (skip_inv 2 h)) hc

theorem change8_endsWell (g : Byte → Byte) (dst : Operand8) {cycles : Nat} (h : Inv s) (hc : cycles ≤ 6 := by decide) :
    EndsWell (change8 g dst cycles s) :=
  done_endsWell (operandWrite_inv dst _ (skip_inv 2 h)) hc

theorem jump_endsWell (a : Word) (h : Inv s) : EndsWell (jump a 4 s) := done_endsWell (withPc_inv a (skip_inv 3 h))

theorem jumpIf_endsWell (k : Cond) (a : Word) (h : Inv s) : EndsWell (jumpIf k a s) := by
  unfold jumpIf
  split
  · exact jump_endsWell a h
  · exact done_endsWell (skip_inv 3 h)

theorem jumpHl_endsWell (h : Inv s) : EndsWell (jumpHl s) := done_endsWell (withPc_inv _ (skip_inv 1 h))

theorem jumpRel_endsWell (e : Byte) (h : Inv s) : EndsWell (jumpRel e 3 s) := done_endsWell (withPc_inv _ (skip_inv 2 h))

theorem jumpRelIf_endsWell (k : Cond) (e : Byte) (h : Inv s) : EndsWell (jumpRelIf k e s) := by
  unfold jumpRelIf
  split
  · exact jumpRel_endsWell e h
  · exact done_endsWell (skip_inv 2 h)

theorem call_endsWell (a : Word) (h : Inv s) : EndsWell (call a s) :=
  done_endsWell (withPc_inv a (push16_inv _ (skip_inv 3 h)))

theorem callIf_endsWell (k : Cond) (a : Word) (h : Inv s) : EndsWell (callIf k a s) := by
  unfold callIf
  split
  · exact call_endsWell a h
  · exact done_endsWell (skip_inv 3 h)

theorem ret_endsWell {cycles : Nat} (h : Inv s) (hc : cycles ≤ 6 := by decide) : EndsWell (ret cycles s) :=
  done_endsWell (withPc_inv _ (popState_inv (skip_inv 1 h))) hc

theorem retIf_endsWell (k : Cond) (h : Inv s) : EndsWell (retIf k s) := by
  unfold retIf
  split
  · exact ret_endsWell h
  · exact done_endsWell (skip_inv 1 h)

theorem restart_endsWell (t : Word) (h : Inv s) : EndsWell (restart t s) :=
  done_endsWell (withPc_inv t (push16_inv _ (skip_inv 1 h)))

theorem reti_endsWell (h : Inv s) : EndsWell (exec .reti s) :=
  done_endsWell (returnFromInterrupt_inv (skip_inv 1 h))

theorem halt_endsWell (h : Inv s) : EndsWell (exec .halt s) :=
  done_endsWell ((skip_inv 1 h).congr (by constructor <;> rfl))

theorem illegal_endsWell (u : Unassigned) (h : Inv s) : EndsWell (exec (Fam.illegal u) s) := by
  rw [exec_illegal]
  exact done_endsWell (raiseIllegal_inv u (skip_inv 1 h))

/-! ## The decoder's blocks (30_encoding.md R131, R136) -/

theorem decodeCb_endsWell (op2 : Byte) (h : Inv s) : EndsWell (exec (decodeCb op2) s) := by
  unfold decodeCb
  split
  · rw [exec_rotReg]; exact modify8_endsWell _ _ _ h
  · rw [exec_rotInd]; exact modify8_endsWell _ _ _ h
  · rw [exec_bitReg]; exact testBit8_endsWell _ _ h
  · rw [exec_bitInd]; exact testBit8_endsWell _ _ h
  · rw [exec_resReg]; exact change8_endsWell _ _ h
  · rw [exec_resInd]; exact change8_endsWell _ _ h
  · rw [exec_setReg]; exact change8_endsWell _ _ h
  · rw [exec_setInd]; exact change8_endsWell _ _ h

theorem decodeBlock0_endsWell (op n : Byte) (nn : Word) (h : Inv s) : EndsWell (exec (decodeBlock0 op n nn) s) := by
  unfold decodeBlock0
  cases fieldZ op <;> dsimp only
  case o0 =>
    split
    · exact done_endsWell (skip_inv 1 h)
    · exact storeSp_endsWell nn h
    · exact done_endsWell (skip_inv 2 h)
    · exact jumpRel_endsWell n h
    all_goals rw [exec_jrCond]; exact jumpRelIf_endsWell _ n h
  case o1 =>
    split
    · rw [exec_addHl]; exact addHlPair_endsWell _ h
    · rw [exec_ldPairImm]; exact load16Imm_endsWell _ nn h
  case o2 => split <;> exact load8_endsWell _ _ _ h
  case o3 =>
    split
    · rw [exec_decPair]; exact decPair_endsWell _ h
    · rw [exec_incPair]; exact incPair_endsWell _ h
  case o4 =>
    split
    · rw [exec_incReg]; exact modify8_endsWell _ _ _ h
    · exact modify8_endsWell _ _ _ h
  case o5 =>
    split
    · rw [exec_decReg]; exact modify8_endsWell _ _ _ h
    · exact modify8_endsWell _ _ _ h
  case o6 =>
    split
    · rw [exec_ldRegImm]; exact load8_endsWell _ _ _ h
    · exact load8_endsWell _ _ _ h
  case o7 =>
    split
    · exact rotateA_endsWell .rlc h
    · exact rotateA_endsWell .rrc h
    · exact rotateA_endsWell .rl h
    · exact rotateA_endsWell .rr h
    · exact decimalAdjust_endsWell h
    · exact complementA_endsWell h
    · exact carryFlag_endsWell true h
    · exact carryFlag_endsWell _ h

theorem decodeBlock1_endsWell (op : Byte) (h : Inv s) : EndsWell (exec (decodeBlock1 op) s) := by
  unfold decodeBlock1
  split
  · rw [exec_ldRegReg]; exact load8_endsWell _ _ _ h
  · rw [exec_ldRegInd]; exact load8_endsWell _ _ _ h
  · rw [exec_ldIndReg]; exact load8_endsWell _ _ _ h
  · exact halt_endsWell h

theorem decodeBlock2_endsWell (op : Byte) (h : Inv s) : EndsWell (exec (decodeBlock2 op) s) := by
  unfold decodeBlock2
  split
  · rw [exec_aluReg]; exact alu8_endsWell _ _ _ h
  · rw [exec_aluInd]; exact alu8_endsWell _ _ _ h

theorem decodeBlock3_endsWell (op n : Byte) (nn : Word) (h : Inv s) : EndsWell (exec (decodeBlock3 op n nn) s) := by
  unfold decodeBlock3
  cases fieldZ op <;> dsimp only
  case o0 =>
    cases fieldY op <;> dsimp only
    case o4 => exact load8_endsWell _ _ _ h
    case o5 => exact addSpE_endsWell n h
    case o6 => exact load8_endsWell _ _ _ h
    case o7 => exact loadHlSpE_endsWell n h
    all_goals rw [exec_retCond]; exact retIf_endsWell _ h
  case o1 =>
    split
    · rw [exec_pop]; exact popPair_endsWell _ h
    · exact ret_endsWell h
    · exact reti_endsWell h
    · exact jumpHl_endsWell h
    · exact loadSpHl_endsWell h
  case o2 =>
    cases fieldY op <;> dsimp only
    case o4 => exact load8_endsWell _ _ _ h
    case o5 => exact load8_endsWell _ _ _ h
    case o6 => exact load8_endsWell _ _ _ h
    case o7 => exact load8_endsWell _ _ _ h
    all_goals rw [exec_jpCond]; exact jumpIf_endsWell _ nn h
  case o3 =>
    split
    · exact jump_endsWell nn h
    · exact decodeCb_endsWell n h
    · exact illegal_endsWell .xD3 h
    · exact illegal_endsWell .xDB h
    · exact illegal_endsWell .xE3 h
    · exact illegal_endsWell .xEB h
    · exact done_endsWell (withIme_inv false false (skip_inv 1 h))
    · exact done_endsWell (withIme_inv s.ime true (skip_inv 1 h))
  case o4 =>
    cases fieldY op <;> dsimp only
    case o4 => exact illegal_endsWell .xE4 h
    case o5 => exact illegal_endsWell .xEC h
    case o6 => exact illegal_endsWell .xF4 h
    case o7 => exact illegal_endsWell .xFC h
    all_goals rw [exec_callCond]; exact callIf_endsWell _ nn h
  case o5 =>
    split
    · rw [exec_push]; exact pushPair_endsWell _ h
    · exact call_endsWell nn h
    · exact illegal_endsWell .xDD h
    · exact illegal_endsWell .xED h
    · exact illegal_endsWell .xFD h
  case o6 => rw [exec_aluImm]; exact alu8_endsWell _ _ _ h
  case o7 => rw [exec_rst]; exact restart_endsWell _ h

/-- Every instruction that three bytes spell ends well. -/
theorem decode_endsWell (b0 b1 b2 : Byte) (h : Inv s) : EndsWell (exec (decode b0 b1 b2) s) := by
  unfold decode
  split
  · exact decodeBlock0_endsWell _ _ _ h
  · exact decodeBlock1_endsWell _ h
  · exact decodeBlock2_endsWell _ h
  · exact decodeBlock3_endsWell _ _ _ h

/-! ## The CPU step and its clock (60_exceptions.md R340, 20_memory.md R101) -/

theorem cpuStep_endsWell (h : Inv s) : EndsWell (cpuStep s) := by
  have hw := wake_inv h
  unfold cpuStep
  dsimp only
  split
  · exact done_endsWell (takeInterrupt_inv _ hw)
  · split
    · exact done_endsWell hw
    · exact decode_endsWell _ _ _ (promote_inv hw)

/-- The first M-cycle of an instruction passes in the tick that ran it, so at most five remain. -/
theorem cpuClock_inv (h : Inv s) : ∃ t, cpuClock s = .next t ∧ Inv t := by
  unfold cpuClock
  split
  · exact ⟨s, rfl, h⟩
  · split
    · obtain ⟨n, t, e, hn, ht⟩ := cpuStep_endsWell h
      rw [e]
      exact ⟨_, rfl, burn_inv hn ht⟩
    · exact ⟨_, rfl, burn_inv (Nat.le_succ_of_le h.cpu.cycles) h⟩

end Instructions

/-! ## The PPU (62_ppu.md) -/

section Ppu

variable {p : Ppu}

theorem insertByX_length (c : Candidate) (l : List Candidate) : (insertByX c l).length = l.length + 1 := by
  induction l with
  | nil => rfl
  | cons k l ih =>
    unfold insertByX
    split
    · rfl
    · simp [ih]

theorem sortByX_length (l : List Candidate) : (sortByX l).length = l.length := by
  induction l with
  | nil => rfl
  | cons c l ih => simp [sortByX, insertByX_length, ih]

/-- The scan takes at most ten sprites, of one of the two heights (R430). -/
theorem scanOam_ok (h : PpuOk p) : PpuOk (scanOam p) :=
  { h with
    height := by
      show (if p.lcdc.getLsbD 2 then 16 else 8) = 8 ∨ (if p.lcdc.getLsbD 2 then 16 else 8) = 16
      split
      · exact .inr rfl
      · exact .inl rfl
    candidates := by
      show (sortByX _).length ≤ 10
      rw [sortByX_length, List.length_take]
      exact Nat.min_le_left _ _ }

/-- A line starts with no pixel drawn and an empty FIFO (R435). -/
theorem startLine_ok (h : PpuOk p) : PpuOk (startLine p) :=
  { h with
    fifo := Nat.zero_le _
    discard := Nat.le_of_lt_succ (Nat.mod_lt _ (by decide))
    lx := Nat.zero_le _
    drawing := fun _ => (by decide : 0 < 160) }

/-- On a visible line DRAWPIXELS may be entered while a pixel is left, HBLANK always. -/
theorem PpuOk.withMode {m : PpuMode} (h : PpuOk p) (hv : visible p.mode) (hm : m = .hblank ∨ m = .drawPixels ∧ p.lx < 160) :
    PpuOk { p with mode := m } :=
  have hm' : m ≠ .vblank ∧ m ≠ .oamScan := by rcases hm with rfl | ⟨rfl, -⟩ <;> decide
  { h with
    drawing := by
      intro (e : m = .drawPixels)
      rcases hm with rfl | ⟨-, hlx⟩
      · cases e
      · exact hlx
    lyVisible := fun _ => h.lyVisible hv
    lyVBlank := fun e => absurd e hm'.1
    windowVisible := fun _ => h.windowVisible hv
    windowVBlank := fun e => absurd e hm'.1
    settled := fun e => e.elim (absurd · hm'.1) fun e => absurd e.1 hm'.2 }

theorem visible_of_eq {m m' : PpuMode} (h : m = m') (hne : m' ≠ .vblank := by decide) : visible m := h ▸ hne

theorem oamScanTick_ok (hm : p.mode = .oamScan) (h : PpuOk p) : PpuOk (oamScanTick p) := by
  unfold oamScanTick
  split
  · exact (startLine_ok (scanOam_ok h)).withMode (visible_of_eq hm) (.inr ⟨rfl, (by decide : 0 < 160)⟩)
  · exact h

/-- The fetcher pushes eight pixels only where they fit (R436). -/
theorem fetcherStep_ok (h : PpuOk p) : PpuOk (fetcherStep p) := by
  unfold fetcherStep
  split
  · exact { h with }
  · exact { h with }
  · exact { h with }
  · split
    · refine { h with fifo := ?_ }
      show (p.fifo ++ rowPixels p.dataLo p.dataHi).length ≤ 16
      rw [List.length_append, show (rowPixels p.dataLo p.dataHi).length = 8 from rfl]
      omega
    · exact h

/-- The output puts at most one pixel into the line, inside the frame (R440, R441). After the line's last pixel only HBLANK's
bounds hold, so the mode is HBLANK here. -/
theorem outputStep_ok (hlx : p.lx < 160) (h : PpuOk { p with mode := .hblank }) :
    PpuOk { outputStep p with mode := .hblank } := by
  have hly : p.ly.toNat ≤ 143 := h.lyVisible (visible_of_eq (m' := .hblank) rfl)
  unfold outputStep
  split
  · exact { h with fifo := Nat.zero_le _, discard := Nat.sub_le _ _ }
  · split
    · exact h
    · rename_i c rest hfifo
      have hrest : rest.length ≤ 16 := by
        have : p.fifo.length ≤ 16 := h.fifo
        rw [hfifo, List.length_cons] at this
        omega
      split
      · exact { h with fifo := hrest, discard := Nat.le_trans (Nat.sub_le _ _) h.discard }
      · exact
          { h with
            fifo := hrest
            lx := hlx
            drawing := PpuMode.noConfusion
            framebuffer := h.framebuffer.write (show 160 * p.ly.toNat + p.lx < 23040 by omega) _
            settled := by rintro (e | ⟨e, -⟩) <;> cases e }

theorem outputStep_mode (p : Ppu) : (outputStep p).mode = p.mode := (congrArg Ppu.mode (outputStep_frame p) :)

theorem fetcherStep_mode (p : Ppu) : (fetcherStep p).mode = p.mode := (congrArg Ppu.mode (fetcherStep_frame p) :)

theorem drawTick_ok (hm : p.mode = .drawPixels) (h : PpuOk p) : PpuOk (drawTick p).1 := by
  unfold drawTick
  dsimp only
  generalize hq : (if (p.lineDot - 81) % 2 = 0 then fetcherStep p else p) = q
  have hq' : q.mode = .drawPixels ∧ PpuOk q := by
    rw [← hq]
    split
    · exact ⟨(fetcherStep_mode p).trans hm, fetcherStep_ok h⟩
    · exact ⟨hm, h⟩
  obtain ⟨hqm, hqok⟩ := hq'
  have hout := outputStep_ok (hqok.drawing hqm) (hqok.withMode (visible_of_eq hqm) (.inl rfl))
  split
  · exact { hout with }
  · rename_i hlx
    have hmode : (outputStep q).mode = .drawPixels := (outputStep_mode q).trans hqm
    exact hout.withMode (visible_of_eq (m' := .hblank) rfl) (.inr ⟨hmode, Nat.lt_of_le_of_ne hout.lx hlx⟩)

/-- After line 143 the frame is done: the host's frame is the framebuffer (R424, R446). -/
theorem hblankTick_ok (hm : p.mode = .hblank) (h : PpuOk p) : PpuOk (hblankTick p).1 := by
  have hly := h.lyVisible (visible_of_eq hm)
  have hwin := h.windowVisible (visible_of_eq hm)
  have hnext : (p.ly + 1).toNat = p.ly.toNat + 1 := by bv_omega
  have hwinNext : (if p.winActive then p.windowLine + 1 else p.windowLine) ≤ (p.ly + 1).toNat := by split <;> omega
  unfold hblankTick
  split
  · dsimp only
    split
    · rename_i hlast
      exact
        { h with
          front := h.framebuffer
          drawing := PpuMode.noConfusion
          lyVisible := fun e => absurd rfl e
          lyVBlank := fun _ => ⟨hlast, by show (p.ly + 1).toNat ≤ 153; omega⟩
          windowVisible := fun e => absurd rfl e
          windowVBlank := fun _ => Nat.le_trans hwinNext (by omega)
          settled := fun _ => rfl }
    · exact
        { h with
          drawing := PpuMode.noConfusion
          lyVisible := fun _ => by show (p.ly + 1).toNat ≤ 143; omega
          lyVBlank := PpuMode.noConfusion
          windowVisible := fun _ => hwinNext
          windowVBlank := PpuMode.noConfusion
          settled := by
            rintro (e | ⟨-, e⟩)
            · cases e
            · rw [show p.ly + 1 = 0 from e] at hnext
              cases hnext }
  · exact h

/-- In VBLANK nothing is drawn, so the host's frame stays the framebuffer until line 0 is scanned (R424, R446). -/
theorem vblankTick_ok (hm : p.mode = .vblank) (h : PpuOk p) : PpuOk (vblankTick p).1 := by
  obtain ⟨hlo, hhi⟩ := h.lyVBlank hm
  have hfront := h.settled (.inl hm)
  unfold vblankTick
  split
  · dsimp only
    split
    · exact
        { h with
          drawing := PpuMode.noConfusion
          lyVisible := fun _ => Nat.zero_le 143
          lyVBlank := PpuMode.noConfusion
          windowVisible := fun _ => Nat.zero_le _
          windowVBlank := PpuMode.noConfusion
          settled := fun _ => hfront }
    · rename_i hne
      have hnext : 144 ≤ (p.ly + 1).toNat ∧ (p.ly + 1).toNat ≤ 153 := by bv_omega
      exact
        { h with
          lyVisible := fun e => absurd hm e
          lyVBlank := fun _ => hnext
          windowVisible := fun e => absurd hm e
          settled := fun _ => hfront }
  · exact h

theorem ppuTick_ok (h : PpuOk p) : PpuOk (ppuTick p).1 := by
  have hdot : PpuOk { p with lineDot := p.lineDot + 1 } := { h with }
  unfold ppuTick
  dsimp only
  split <;> rename_i hm
  · exact oamScanTick_ok hm hdot
  · exact drawTick_ok hm hdot
  · exact hblankTick_ok hm hdot
  · exact vblankTick_ok hm hdot

end Ppu

/-! ## The devices and the tick (20_memory.md R100) -/

section Devices

variable {s : State}

theorem timerPart_inv (h : Inv s) : Inv (timerPart s) := request_inv _ _ (h.congr (by constructor <;> rfl))

/-- The engine copies inside OAM, and stops after the last byte (61_timer_dma_io.md R391). -/
theorem dmaPart_inv (h : Inv s) : Inv (dmaPart s) := by
  unfold dmaPart
  split
  · rename_i hactive
    have hoff := h.dma.left hactive
    refine { h with cpu := { h.cpu with }, dma := ⟨hoff, ?_⟩, ppu := { h.ppu with oam := h.ppu.oam.write hoff _ } }
    intro (hleft : (if s.dma.offset + 1 = 160 then false else s.dma.active) = true)
    show s.dma.offset + 1 < 160
    split at hleft
    · cases hleft
    · omega
  · exact h

theorem ppuPart_inv (h : Inv s) : Inv (ppuPart s) :=
  request_inv _ _ (request_inv _ _ { h with cpu := { h.cpu with }, ppu := ppuTick_ok h.ppu })

theorem devices_inv (h : Inv s) : Inv (devices s) := ppuPart_inv (dmaPart_inv (timerPart_inv h))

/-- A tick answers a next state that meets the invariant, whether the CPU acts in it or not. -/
theorem tick_inv (h : Inv s) : ∃ t, tick s = .next t ∧ Inv t := by
  have hcount := countTick_inv h
  unfold tick
  dsimp only
  split
  · obtain ⟨t, e, ht⟩ := cpuClock_inv hcount
    rw [e]
    exact ⟨_, rfl, devices_inv ht⟩
  · exact ⟨_, rfl, devices_inv hcount⟩

end Devices

/-- Settles O11: the CPU's part of a tick (`cpuClock_inv`) and each device's part keep the invariant. -/
theorem stepKeepsTheInvariant : Obligations.StepKeepsTheInvariant := by
  unfold Obligations.StepKeepsTheInvariant
  exact fun s h => tick_inv h

end Sys2Proof.Machine
end

section
/-! Every instruction is one of the model's shared operations, said once (60_exceptions.md R340 step 6); so every CPU step
completes, from any state. -/

namespace Sys2Proof.Machine

/-- What running an instruction can answer in `s`: one of the model's shared operations, in the order of the model's files. -/
inductive SharedOp (s : State) : Result → Prop where
  | load8 (dst src : Operand8) (len cycles : Nat) : SharedOp s (load8 dst src len cycles s)
  | load16Imm (p : R16) (nn : Word) : SharedOp s (load16Imm p nn s)
  | storeSp (nn : Word) : SharedOp s (storeSp nn s)
  | loadSpHl : SharedOp s (loadSpHl s)
  | loadHlSpE (e : Byte) : SharedOp s (loadHlSpE e s)
  | pushPair (p : R16Stk) : SharedOp s (pushPair p s)
  | popPair (p : R16Stk) : SharedOp s (popPair p s)
  | alu8 (op : AluOp) (src : Operand8) (len cycles : Nat) : SharedOp s (alu8 op src len cycles s)
  | modify8 (op : Byte → Bool → AluOut) (dst : Operand8) (len cycles : Nat) : SharedOp s (modify8 op dst len cycles s)
  | addHlPair (p : R16) : SharedOp s (addHlPair p s)
  | incPair (p : R16) : SharedOp s (incPair p s)
  | decPair (p : R16) : SharedOp s (decPair p s)
  | addSpE (e : Byte) : SharedOp s (addSpE e s)
  | rotateA (op : RotOp) : SharedOp s (rotateA op s)
  | decimalAdjust : SharedOp s (decimalAdjust s)
  | complementA : SharedOp s (complementA s)
  | carryFlag (c : Bool) : SharedOp s (carryFlag c s)
  | testBit8 (b : Nat) (src : Operand8) (cycles : Nat) : SharedOp s (testBit8 b src cycles s)
  | change8 (g : Byte → Byte) (dst : Operand8) (cycles : Nat) : SharedOp s (change8 g dst cycles s)
  | jump (a : Word) (cycles : Nat) : SharedOp s (jump a cycles s)
  | jumpIf (k : Cond) (a : Word) : SharedOp s (jumpIf k a s)
  | jumpHl : SharedOp s (jumpHl s)
  | jumpRel (e : Byte) (cycles : Nat) : SharedOp s (jumpRel e cycles s)
  | jumpRelIf (k : Cond) (e : Byte) : SharedOp s (jumpRelIf k e s)
  | call (a : Word) : SharedOp s (call a s)
  | callIf (k : Cond) (a : Word) : SharedOp s (callIf k a s)
  | ret (cycles : Nat) : SharedOp s (ret cycles s)
  | retIf (k : Cond) : SharedOp s (retIf k s)
  | reti : SharedOp s (execReti s)
  | restart (t : Word) : SharedOp s (restart t s)
  | nop : SharedOp s (execNop s)
  | halt : SharedOp s (execHalt s)
  | stop (n : Byte) : SharedOp s (execStop n s)
  | di : SharedOp s (execDi s)
  | ei : SharedOp s (execEi s)
  | illegal (op : Byte) : SharedOp s (illegal op Config.illegalOpcodePolicy s)

/-! ## Every decoded instruction is one (30_encoding.md R131, R136) -/

theorem exec_decodeCb_sharedOp (op2 : Byte) (s : State) : SharedOp s (exec (decodeCb op2) s) := by
  unfold decodeCb
  split
  · rw [exec_rotReg]; exact .modify8 ..
  · rw [exec_rotInd]; exact .modify8 ..
  · rw [exec_bitReg]; exact .testBit8 ..
  · rw [exec_bitInd]; exact .testBit8 ..
  · rw [exec_resReg]; exact .change8 ..
  · rw [exec_resInd]; exact .change8 ..
  · rw [exec_setReg]; exact .change8 ..
  · rw [exec_setInd]; exact .change8 ..

theorem exec_decodeBlock0_sharedOp (op n : Byte) (nn : Word) (s : State) : SharedOp s (exec (decodeBlock0 op n nn) s) := by
  unfold decodeBlock0
  cases fieldZ op <;> dsimp only
  case o0 =>
    split
    · exact .nop
    · exact .storeSp nn
    · exact .stop n
    · exact .jumpRel n 3
    all_goals rw [exec_jrCond]; exact .jumpRelIf ..
  case o1 =>
    split
    · rw [exec_addHl]; exact .addHlPair _
    · rw [exec_ldPairImm]; exact .load16Imm ..
  case o2 => split <;> exact .load8 ..
  case o3 =>
    split
    · rw [exec_decPair]; exact .decPair _
    · rw [exec_incPair]; exact .incPair _
  case o4 =>
    split
    · rw [exec_incReg]; exact .modify8 ..
    · exact .modify8 ..
  case o5 =>
    split
    · rw [exec_decReg]; exact .modify8 ..
    · exact .modify8 ..
  case o6 =>
    split
    · rw [exec_ldRegImm]; exact .load8 ..
    · exact .load8 ..
  case o7 =>
    split
    · exact .rotateA .rlc
    · exact .rotateA .rrc
    · exact .rotateA .rl
    · exact .rotateA .rr
    · exact .decimalAdjust
    · exact .complementA
    · exact .carryFlag true
    · exact .carryFlag (!flagC s)

theorem exec_decodeBlock1_sharedOp (op : Byte) (s : State) : SharedOp s (exec (decodeBlock1 op) s) := by
  unfold decodeBlock1
  split
  · rw [exec_ldRegReg]; exact .load8 ..
  · rw [exec_ldRegInd]; exact .load8 ..
  · rw [exec_ldIndReg]; exact .load8 ..
  · exact .halt

theorem exec_decodeBlock2_sharedOp (op : Byte) (s : State) : SharedOp s (exec (decodeBlock2 op) s) := by
  unfold decodeBlock2
  split
  · rw [exec_aluReg]; exact .alu8 ..
  · rw [exec_aluInd]; exact .alu8 ..

theorem exec_decodeBlock3_sharedOp (op n : Byte) (nn : Word) (s : State) : SharedOp s (exec (decodeBlock3 op n nn) s) := by
  unfold decodeBlock3
  cases fieldZ op <;> dsimp only
  case o0 =>
    cases fieldY op <;> dsimp only
    case o4 => exact .load8 ..
    case o5 => exact .addSpE n
    case o6 => exact .load8 ..
    case o7 => exact .loadHlSpE n
    all_goals rw [exec_retCond]; exact .retIf _
  case o1 =>
    split
    · rw [exec_pop]; exact .popPair _
    · exact .ret 4
    · exact .reti
    · exact .jumpHl
    · exact .loadSpHl
  case o2 =>
    cases fieldY op <;> dsimp only
    case o4 => exact .load8 ..
    case o5 => exact .load8 ..
    case o6 => exact .load8 ..
    case o7 => exact .load8 ..
    all_goals rw [exec_jpCond]; exact .jumpIf ..
  case o3 =>
    split
    · exact .jump nn 4
    · exact exec_decodeCb_sharedOp n s
    case h_7 => exact .di
    case h_8 => exact .ei
    all_goals exact .illegal ..
  case o4 =>
    cases fieldY op <;> dsimp only
    case o4 => exact .illegal ..
    case o5 => exact .illegal ..
    case o6 => exact .illegal ..
    case o7 => exact .illegal ..
    all_goals rw [exec_callCond]; exact .callIf ..
  case o5 =>
    split
    · rw [exec_push]; exact .pushPair _
    · exact .call nn
    all_goals exact .illegal ..
  case o6 => rw [exec_aluImm]; exact .alu8 ..
  case o7 => rw [exec_rst]; exact .restart _

/-- Every instruction that three bytes spell runs one of the shared operations. -/
theorem exec_decode_sharedOp (b0 b1 b2 : Byte) (s : State) : SharedOp s (exec (decode b0 b1 b2) s) := by
  unfold decode
  split
  · exact exec_decodeBlock0_sharedOp _ _ _ s
  · exact exec_decodeBlock1_sharedOp _ s
  · exact exec_decodeBlock2_sharedOp _ s
  · exact exec_decodeBlock3_sharedOp _ _ _ s

/-! ## Every operation completes and leaves the tick counter alone -/

@[simp] theorem push16_ticks (v : Word) (s : State) : (push16 v s).ticks = s.ticks := by simp [push16]

@[simp] theorem busWrite16_ticks (a v : Word) (s : State) : (busWrite16 a v s).ticks = s.ticks := by simp [busWrite16]

@[simp] theorem returnFromInterrupt_ticks (s : State) : (returnFromInterrupt s).ticks = s.ticks := rfl

@[simp] theorem takeInterrupt_ticks (i : IntSource) (s : State) : (takeInterrupt i s).ticks = s.ticks := by
  simp [takeInterrupt]

@[simp] theorem operandSideEffect_ticks (o : Operand8) (s : State) : (operandSideEffect o s).ticks = s.ticks := by
  cases o <;> simp [operandSideEffect]

@[simp] theorem operandWrite_ticks (o : Operand8) (v : Byte) (s : State) : (operandWrite o v s).ticks = s.ticks := by
  cases o <;> simp [operandWrite]

/-- The operation ends with a count of M-cycles, and the tick counter is as before. -/
def Completes (s : State) (r : Result) : Prop := ∃ n t, r = done n t ∧ t.ticks = s.ticks

theorem done_completes {s t : State} (n : Nat) (h : t.ticks = s.ticks) : Completes s (done n t) := ⟨n, t, rfl, h⟩

/-- Only the taken or untaken branch of a conditional transfer, and CP's discarded result, need a split. -/
theorem SharedOp.completes {s : State} {r : Result} (h : SharedOp s r) : Completes s r := by
  cases h
  case jumpIf k a => unfold Machine.jumpIf; split <;> exact done_completes _ rfl
  case jumpRelIf k e => unfold Machine.jumpRelIf; split <;> exact done_completes _ rfl
  case callIf k a => unfold Machine.callIf; split <;> exact done_completes _ (by simp)
  case retIf k => unfold Machine.retIf; split <;> exact done_completes _ rfl
  case illegal op => exact done_completes _ rfl
  case alu8 op src len cycles => refine done_completes _ ?_; split <;> simp
  all_goals exact done_completes _ (by simp)

/-- A CPU step takes an interrupt, waits in HALT, or runs the instruction at PC (60_exceptions.md R340). -/
theorem cpuStep_completes (s : State) : Completes s (cpuStep s) := by
  unfold cpuStep
  dsimp only
  split
  · exact done_completes _ (by simp)
  · split
    · exact done_completes _ (by simp)
    · obtain ⟨n, t, e, ht⟩ := (exec_decode_sharedOp _ _ _ (promote (wake s))).completes
      exact ⟨n, t, e, by simpa using ht⟩

/-- `CpuClock()` answers a next state whether it steps, burns a cycle or is stopped by the fault (20_memory.md R101). -/
theorem cpuClock_next (s : State) : ∃ t, cpuClock s = .next t ∧ t.ticks = s.ticks := by
  unfold cpuClock
  split
  · exact ⟨s, rfl, rfl⟩
  · split
    · obtain ⟨n, t, e, ht⟩ := cpuStep_completes s
      rw [e]
      exact ⟨_, rfl, ht⟩
    · exact ⟨_, rfl, rfl⟩

end Sys2Proof.Machine
end

section
/-! The devices' part of a tick (20_memory.md R100): what the timer, the DMA engine and the PPU change, and what every step runs
before them: O15, O16, O10. -/

namespace Sys2Proof.Machine

/-! ## The devices -/

/-! ### The timer's and the PPU's registers that the bus writes -/

theorem timerTick_tma (t : Timer) : (timerTick t).1.tma = t.tma := by
  unfold timerTick
  split_ifs <;> rfl

theorem timerTick_tac (t : Timer) : (timerTick t).1.tac = t.tac := by
  unfold timerTick
  split_ifs <;> rfl

/-- What the bus writes of the PPU, the rest at reset: memories, enables, scroll, palette, LYC and window registers. -/
def Ppu.inputs (p : Ppu) : Ppu :=
  { Ppu.reset with
    vram := p.vram, oam := p.oam, lcdc := p.lcdc, statEnables := p.statEnables, scy := p.scy, scx := p.scx, lyc := p.lyc
    bgp := p.bgp, obp0 := p.obp0, obp1 := p.obp1, wy := p.wy, wx := p.wx }

/-- Equal inputs, field by field. -/
theorem Ppu.fields_of_inputs {p q : Ppu} (h : p.inputs = q.inputs) :
    p.vram = q.vram ∧ p.oam = q.oam ∧ p.lcdc = q.lcdc ∧ p.statEnables = q.statEnables ∧ p.scy = q.scy ∧ p.scx = q.scx ∧
    p.lyc = q.lyc ∧ p.bgp = q.bgp ∧ p.obp0 = q.obp0 ∧ p.obp1 = q.obp1 ∧ p.wy = q.wy ∧ p.wx = q.wx := by
  simpa [Ppu.inputs, Ppu.reset] using h

theorem fetcherStep_inputs (p : Ppu) : (fetcherStep p).inputs = p.inputs := (congrArg Ppu.inputs (fetcherStep_frame p) :)

theorem outputStep_inputs (p : Ppu) : (outputStep p).inputs = p.inputs := (congrArg Ppu.inputs (outputStep_frame p) :)

theorem drawTick_inputs (p : Ppu) : (drawTick p).1.inputs = p.inputs := by
  unfold drawTick
  dsimp only
  generalize hq : (if (p.lineDot - 81) % 2 = 0 then fetcherStep p else p) = q
  have hqp : q.inputs = p.inputs := by
    rw [← hq]
    split
    · exact fetcherStep_inputs p
    · rfl
  rw [← hqp, ← outputStep_inputs q]
  split <;> rfl

/-- The PPU's tick writes none of its inputs (62_ppu.md R410). -/
theorem ppuTick_inputs (p : Ppu) : (ppuTick p).1.inputs = p.inputs := by
  unfold ppuTick
  dsimp only
  split
  · unfold oamScanTick
    split <;> rfl
  · exact drawTick_inputs _
  · unfold hblankTick
    dsimp only
    split_ifs <;> rfl
  · unfold vblankTick
    dsimp only
    split_ifs <;> rfl

/-! ### Each device's part as an update of the state -/

theorem timerPart_eq (s : State) :
    timerPart s = { s with timer := (timerTick s.timer).1, ifReg := (timerPart s).ifReg } := by
  unfold timerPart
  rw [request_eq]

theorem dmaPart_eq (s : State) :
    dmaPart s = { s with dma := (dmaPart s).dma, ppu := { s.ppu with oam := (dmaPart s).ppu.oam } } := by
  unfold dmaPart
  split <;> rfl

theorem ppuPart_eq (s : State) : ppuPart s = { s with ppu := (ppuTick s.ppu).1, ifReg := (ppuPart s).ifReg } := by
  simp only [ppuPart, request_eq]

/-- The devices change the timer, the DMA engine, the PPU and IF alone, each device after the one before it (20_memory.md R100). -/
theorem devices_eq (s : State) :
    devices s = { s with
      timer := (timerTick s.timer).1
      dma := (dmaPart (timerPart s)).dma
      ppu := (ppuTick (dmaPart (timerPart s)).ppu).1
      ifReg := (devices s).ifReg } := by
  unfold devices
  rw [ppuPart_eq]
  generalize (ppuPart _).ifReg = f
  rw [dmaPart_eq, timerPart_eq]

/-! ### The requests (60_exceptions.md R345) -/

theorem dmaPart_ifReg (s : State) : (dmaPart s).ifReg = s.ifReg := by rw [dmaPart_eq]

theorem timerPart_getLsbD (s : State) (k : Nat) :
    (timerPart s).ifReg.getLsbD k = (s.ifReg.getLsbD k || ((timerTick s.timer).2 && decide (k = sourceBit .timer))) := by
  simp [timerPart]

theorem devices_getLsbD (s : State) (k : Nat) :
    (devices s).ifReg.getLsbD k =
      ((timerPart s).ifReg.getLsbD k ||
        ((ppuTick (dmaPart (timerPart s)).ppu).2.vblank && decide (k = sourceBit .vblank)) ||
        ((ppuTick (dmaPart (timerPart s)).ppu).2.lcdStat && decide (k = sourceBit .lcdStat))) := by
  simp [devices, ppuPart, dmaPart_ifReg]

/-! ## What runs before the devices (20_memory.md R100, R101) -/

theorem cpuPhase_countTick (s : State) : cpuPhase (countTick s) = true ↔ (s.ticks + 1) % 4 = 0 := by
  simp [cpuPhase, Config.ticksPerMCycle, Config.tickPhase]

/-- After a fault only the devices act (47_system.md R330). -/
theorem tick_fault (s : State) (hf : s.fault ≠ none) : tick s = .next (devices (countTick s)) := by
  have hsome : s.fault.isSome = true := Option.isSome_iff_ne_none.2 hf
  cases hp : cpuPhase (countTick s)
  · exact tick_devices s hp
  · simp [tick, hp, cpuClock, hsome, Result.thenDo]

theorem step_devices (s : State) (h : (s.ticks + 1) % 4 ≠ 0 ∨ s.fault ≠ none) : step s = .next (devices (countTick s)) := by
  rcases h with hp | hf
  · exact tick_devices s (by simpa using mt (cpuPhase_countTick s).1 hp)
  · exact tick_fault s hf

/-- A step without a CPU step runs the devices from a state in which at most the two counters differ. -/
theorem step_of_no_cpuStep (s : State) (h : s.fault ≠ none ∨ s.cyclesLeft ≠ 0 ∨ (s.ticks + 1) % 4 ≠ 0) :
    ∃ n, step s = .next (devices { countTick s with cyclesLeft := n }) := by
  by_cases hd : (s.ticks + 1) % 4 ≠ 0 ∨ s.fault ≠ none
  · exact ⟨s.cyclesLeft, step_devices s hd⟩
  · obtain ⟨hp, hf⟩ : (s.ticks + 1) % 4 = 0 ∧ s.fault = none := by simpa using hd
    have hc : s.cyclesLeft ≠ 0 := (h.resolve_left (· hf)).resolve_right (· hp)
    exact ⟨s.cyclesLeft - 1, tick_burn s ((cpuPhase_countTick s).2 hp) hf hc⟩

theorem sameCpuState_refl (s : State) : SameCpuState s s := ⟨fun _ _ => rfl, rfl, rfl, rfl, rfl, rfl, rfl, rfl⟩

theorem devices_sameCpuState {s c : State} (h : SameCpuState s c) : SameCpuState s (devices c) := by
  obtain ⟨hr, hf, hsp, hpc, hime, hen, hhalt, hfault⟩ := h
  rw [devices_eq]
  exact ⟨fun r hn => .trans (by cases r <;> rfl) (hr r hn), hf, hsp, hpc, hime, hen, hhalt, hfault⟩

/-- Settles O15: without a CPU step only the devices act (`step_of_no_cpuStep`), and they change four fields (`devices_eq`). -/
theorem onlyCpuStepsChangeTheCpu : Obligations.OnlyCpuStepsChangeTheCpu := by
  unfold Obligations.OnlyCpuStepsChangeTheCpu
  intro s h
  obtain ⟨n, e⟩ := step_of_no_cpuStep s h
  refine ⟨_, e, ?_⟩
  rw [devices_eq]
  exact ⟨⟨fun r _ => by cases r <;> rfl, rfl, rfl, rfl, rfl, rfl, rfl, rfl⟩, rfl, rfl, rfl, rfl⟩

/-! ## Each device after the one before it -/

theorem timerPart_timer (s : State) : (timerPart s).timer = (timerTick s.timer).1 := by rw [timerPart_eq]

theorem timerPart_dma (s : State) : (timerPart s).dma = s.dma := by rw [timerPart_eq]

theorem timerPart_ppu (s : State) : (timerPart s).ppu = s.ppu := by rw [timerPart_eq]

theorem dmaPart_ppu (s : State) : (dmaPart s).ppu = { s.ppu with oam := (dmaPart s).ppu.oam } := (congrArg State.ppu (dmaPart_eq s) :)

/-- Without a transfer the engine does nothing (61_timer_dma_io.md R391). -/
theorem dmaPart_inactive {s : State} (h : s.dma.active = false) : dmaPart s = s := by simp [dmaPart, h]

theorem devices_ppu (s : State) : (devices s).ppu = (ppuTick (dmaPart (timerPart s)).ppu).1 := by rw [devices_eq]

theorem devices_oam (s : State) : (devices s).ppu.oam = (dmaPart (timerPart s)).ppu.oam := by
  rw [devices_ppu]
  exact (congrArg Ppu.oam (ppuTick_inputs _) :)

theorem devices_inputs (s : State) :
    (devices s).ppu.inputs = { s.ppu with oam := (dmaPart (timerPart s)).ppu.oam }.inputs := by
  rw [devices_ppu, ppuTick_inputs, dmaPart_ppu, timerPart_ppu]

/-- Settles O16: the order is `tick`'s own, the parts and the frame are `devices_eq`, `devices_inputs` and `devices_getLsbD`. -/
theorem devicesLeaveTheCpuAlone : Obligations.DevicesLeaveTheCpuAlone := by
  unfold Obligations.DevicesLeaveTheCpuAlone
  refine ⟨?order, ?parts, ?frame⟩
  case order =>
    rintro s c rfl
    refine ⟨step_devices s, fun hp hf hc => tick_burn s ((cpuPhase_countTick s).2 hp) hf hc, fun hp hf hc u hu => ?_⟩
    exact (tick_cpuStep s ((cpuPhase_countTick s).2 hp) hf hc).trans
      (congrArg (fun r : Result => (r.thenDo burn).thenDo devices) hu)
  case parts =>
    rintro s t u v rfl rfl rfl
    refine ⟨?_, ?_, devices_ppu s, devices_oam s, ?_, ?_, ?_⟩
    · rw [devices_eq, timerPart_timer]
    · rw [devices_eq]
    · rw [devices_getLsbD]; simp [sourceBit]
    · rw [devices_getLsbD, timerPart_getLsbD]; simp [sourceBit]
    · rw [devices_getLsbD, timerPart_getLsbD]; simp [sourceBit]
  case frame =>
    rintro s t rfl
    have hset (k : Nat) (hk : s.ifReg.getLsbD k = true) : (devices s).ifReg.getLsbD k = true := by
      rw [devices_getLsbD, timerPart_getLsbD, hk]
      simp
    have hoam (hoff : s.dma.active = false) : (devices s).ppu.oam = s.ppu.oam := by
      rw [devices_oam, dmaPart_inactive, timerPart_ppu]
      rwa [timerPart_dma]
    obtain ⟨hvram, -, hlcdc, hstat, hscy, hscx, hlyc, hbgp, hobp0, hobp1, hwy, hwx⟩ := Ppu.fields_of_inputs (devices_inputs s)
    refine ⟨devices_sameCpuState (sameCpuState_refl s), ?_, ?_, ?_, ?_, ?_, ?_, ?_, ?_, ?_, ?tma, ?tac, hvram, hlcdc, hstat, hscy,
      hscx, hlyc, hbgp, hobp0, hobp1, hwy, hwx, hoam, hset, ?serial, ?joypad⟩
    case tma => rw [devices_eq]; exact timerTick_tma s.timer
    case tac => rw [devices_eq]; exact timerTick_tac s.timer
    case serial => rw [devices_getLsbD, timerPart_getLsbD]; simp [sourceBit]
    case joypad => rw [devices_getLsbD, timerPart_getLsbD]; simp [sourceBit]
    all_goals rw [devices_eq]

/-! ## Every step answers a next state -/

theorem devices_ticks (s : State) : (devices s).ticks = s.ticks := by rw [devices_eq]

/-- Settles O10: `CpuClock()` always answers a next state (`cpuClock_next`), and the devices leave the counter alone. -/
theorem stepAlwaysAnswersNext : Obligations.StepAlwaysAnswersNext := by
  unfold Obligations.StepAlwaysAnswersNext
  intro s
  show ∃ t, tick s = .next t ∧ t.ticks = s.ticks + 1
  unfold tick
  dsimp only
  split
  · obtain ⟨t, e, ht⟩ := cpuClock_next (countTick s)
    rw [e]
    exact ⟨_, rfl, (devices_ticks t).trans ht⟩
  · exact ⟨_, rfl, devices_ticks _⟩

end Sys2Proof.Machine
end

section
/-! The regions of the bus (20_memory.md R71 to R84): WRAM's mirror, the unusable region, the DMA mask: O54. Then the I/O
registers, STAT, JOYP and the buttons (61_timer_dma_io.md): O55. -/

namespace Sys2Proof.Machine

/-! ## The address map (20_memory.md R71) -/

/-- Two regions with an address in common are one. -/
theorem Region.eq_of_common {r r' : Region} {n : Nat} (hlo : r.first ≤ n) (hhi : n < r.limit) (hlo' : r'.first ≤ n)
    (hhi' : n < r'.limit) : r = r' := by
  by_contra hne
  cases r <;> cases r' <;> simp only [Region.first, Region.limit, not_true_eq_false] at hlo hhi hlo' hhi' hne <;> omega

/-- An address inside a region's bounds belongs to it, as the regions do not overlap. -/
theorem regionOf_eq {a : Word} {r : Region} (hlo : r.first ≤ a.toNat) (hhi : a.toNat < r.limit) : regionOf a = r := by
  obtain ⟨hlo', hhi'⟩ := regionOf_bounds (a := a) rfl
  exact Region.eq_of_common hlo' hhi' hlo hhi

section Regions

variable {a : Word} {v : Byte} {s : State}

/-- A byte written in WRAM is read at its mirror: both addresses name one cell (20_memory.md R77). -/
theorem busRead_echo_busWrite_wram (hlo : 0xC000 ≤ a.toNat) (hhi : a.toNat < 0xDE00) :
    busRead (a + 0x2000) (busWrite a v s) = v := by
  have hmirror : (a + 0x2000).toNat = a.toNat + 0x2000 := by bv_omega
  have ha : regionOf a = .wram := regionOf_eq hlo (show a.toNat < 0xE000 by omega)
  have hm : regionOf (a + 0x2000) = .echo :=
    regionOf_eq (show 0xE000 ≤ (a + 0x2000).toNat by omega) (show (a + 0x2000).toNat < 0xFE00 by omega)
  have hcell : (a + 0x2000).toNat % 8192 = a.toNat % 8192 := by omega
  rw [busWrite_wram (.inl ha), busRead_wram (.inr hm), hcell]
  exact Store.read_write_same ..

/-- The unusable region reads 0 and drops writes (20_memory.md R79). -/
theorem unusable_inert (h : regionOf a = .unusable) : busRead a s = 0 ∧ busWrite a v s = s := by
  simp [busRead, readWithMask, busWrite, h]

/-- While a transfer is active, VRAM and OAM read 0xFF and drop writes (20_memory.md R75, R78). -/
theorem dma_masks (hdma : s.dma.active = true) (h : regionOf a = .vram ∨ regionOf a = .oam) :
    busRead a s = 0xFF ∧ busWrite a v s = s := by
  rcases h with h | h <;> simp [busRead, readWithMask, busWrite, h, hdma]

end Regions

/-- Settles O54: reach and plain storage are the laws of the bus above; the other parts hold in their regions, found by the
bounds (`regionOf_eq`). -/
theorem busStorageAndReach : Obligations.BusStorageAndReach := by
  unfold Obligations.BusStorageAndReach
  intro a v s
  refine ⟨fun x => busRead_busWrite_of_not_reached, busRead_busWrite_plain, fun h => busRead_echo_busWrite_wram h.1 h.2,
    fun h => unusable_inert (regionOf_eq h.1 h.2), fun hdma h => dma_masks hdma ?_⟩
  exact h.imp (fun h => regionOf_eq h.1 h.2) (fun h => regionOf_eq h.1 h.2)

/-! ## The I/O page (20_memory.md R80, R81, R84) -/

section IoPage

variable {a : Word} {g : IoReg} {v : Byte} {s : State}

theorem busRead_io (ha : regionOf a = .io) (hg : ioRegAt (loByte a) = some g) : busRead a s = ioRead g s := by
  simp only [busRead, readWithMask, ha, hg]

theorem busWrite_io (ha : regionOf a = .io) (hg : ioRegAt (loByte a) = some g) : busWrite a v s = ioWrite g v s := by
  simp only [busWrite, ha, hg]

/-- An address without a register reads 0xFF and drops writes (20_memory.md R84). -/
theorem unmapped_inert (ha : regionOf a = .io) (hg : ioRegAt (loByte a) = none) : busRead a s = 0xFF ∧ busWrite a v s = s := by
  simp only [busRead, readWithMask, busWrite, ha, hg, and_self]

end IoPage

/-- The address of an I/O register. -/
def ioAddr (g : IoReg) : Word := BitVec.ofNat 16 (0xFF00 + ioOffset g)

theorem regionOf_ioAddr (g : IoReg) : regionOf (ioAddr g) = .io := by cases g <;> rfl

theorem ioRegAt_ioAddr (g : IoReg) : ioRegAt (loByte (ioAddr g)) = some g := by cases g <;> rfl

theorem busRead_ioAddr (g : IoReg) (s : State) : busRead (ioAddr g) s = ioRead g s :=
  busRead_io (regionOf_ioAddr g) (ioRegAt_ioAddr g)

theorem busWrite_ioAddr (g : IoReg) (v : Byte) (s : State) : busWrite (ioAddr g) v s = ioWrite g v s :=
  busWrite_io (regionOf_ioAddr g) (ioRegAt_ioAddr g)

/-- Where the decode finds a register, the address is the register's own. -/
theorem eq_ioAddr {a : Word} {g : IoReg} (ha : regionOf a = .io) (h : ioRegAt (loByte a) = some g) : a = ioAddr g := by
  apply BitVec.eq_of_toNat_eq
  rw [toNat_of_ioRegAt_loByte ha h]
  cases g <;> rfl

/-- The registers that hold a whole byte and read it back (20_memory.md R80, R81). -/
def byteRegs : List IoReg := [.sb, .sc, .tima, .tma, .lcdc, .scy, .scx, .lyc, .dma, .bgp, .obp0, .obp1, .wy, .wx]

theorem ioRead_ioWrite_byteRegs {g : IoReg} (hg : g ∈ byteRegs) (v : Byte) (s : State) : ioRead g (ioWrite g v s) = v := by
  cases g
  case joyp | div | tac | ifr | stat | ly => exact absurd hg (by decide)
  all_goals rfl

theorem setWidth_extract_low3 (v : Byte) : (v.extractLsb' 0 3).setWidth 8 = v &&& 0x07 := by
  ext i hi
  interval_cases i <;> simp

theorem setWidth_extract_low5 (v : Byte) : (v.extractLsb' 0 5).setWidth 8 = v &&& 0x1F := by
  ext i hi
  interval_cases i <;> simp

/-! ### STAT -/

theorem statRead_eq (p : Ppu) : statRead p =
    0x80 ||| BitVec.ofNat 8 (8 * p.statEnables.toNat) ||| BitVec.ofNat 8 (4 * p.coincidence.toNat + modeNumber p.mode) := by
  unfold statRead
  generalize p.statEnables = e, p.coincidence = c, p.mode = m
  cases m <;> (revert e c; decide)

theorem statRead_low (p : Ppu) : statRead p &&& 0x07 = BitVec.ofNat 8 (4 * p.coincidence.toNat + modeNumber p.mode) := by
  unfold statRead
  generalize p.statEnables = e, p.coincidence = c, p.mode = m
  cases m <;> (revert e c; decide)

/-- STAT's enables stand where the write put them. -/
theorem statEnables_in_place (v : Byte) : BitVec.ofNat 8 (8 * (v.extractLsb' 3 4).toNat) = v &&& 0x78 := by revert v; decide

theorem statRead_ioWrite (v : Byte) (s : State) :
    ioRead .stat (ioWrite .stat v s) = 0x80 ||| (v &&& 0x78) ||| (ioRead .stat s &&& 0x07) := by
  simp only [ioRead, ioWrite]
  rw [statRead_low, statRead_eq, statEnables_in_place]

/-! ### JOYP (61_timer_dma_io.md R400) -/

/-- Does a selected group pull a line of JOYP low: the direction button `d` or the action button `a`? -/
def joypLow (sel : BitVec 2) (d a : Bool) : Bool := (!sel.getLsbD 0 && d) || (!sel.getLsbD 1 && a)

/-- JOYP with these select bits and these lines pulled low. -/
def joypByte (sel : BitVec 2) (low0 low1 low2 low3 : Bool) : Byte :=
  BitVec.ofNat 8 (0xC0 + 16 * sel.toNat + (if low0 then 0 else 1) + (if low1 then 0 else 2) + (if low2 then 0 else 4) +
    (if low3 then 0 else 8))

theorem joypRead_eq (sel : BitVec 2) (k : Buttons) :
    joypRead sel k = joypByte sel (joypLow sel k.right k.a) (joypLow sel k.left k.b) (joypLow sel k.up k.select)
      (joypLow sel k.down k.start) := rfl

theorem joypByte_high (sel : BitVec 2) (low0 low1 low2 low3 : Bool) :
    joypByte sel low0 low1 low2 low3 &&& 0xF0 = 0xC0 ||| BitVec.ofNat 8 (16 * sel.toNat) := by
  revert sel low0 low1 low2 low3; decide

theorem joypByte_lines (sel : BitVec 2) (low0 low1 low2 low3 : Bool) :
    (joypByte sel low0 low1 low2 low3).getLsbD 0 = !low0 ∧ (joypByte sel low0 low1 low2 low3).getLsbD 1 = !low1 ∧
    (joypByte sel low0 low1 low2 low3).getLsbD 2 = !low2 ∧ (joypByte sel low0 low1 low2 low3).getLsbD 3 = !low3 := by
  revert sel low0 low1 low2 low3; decide

theorem joypRead_lines (sel : BitVec 2) (k : Buttons) :
    (joypRead sel k).getLsbD 0 = !joypLow sel k.right k.a ∧ (joypRead sel k).getLsbD 1 = !joypLow sel k.left k.b ∧
    (joypRead sel k).getLsbD 2 = !joypLow sel k.up k.select ∧ (joypRead sel k).getLsbD 3 = !joypLow sel k.down k.start :=
  joypByte_lines ..

theorem joypSelect_in_place (v : Byte) : BitVec.ofNat 8 (16 * (v.extractLsb' 4 2).toNat) = v &&& 0x30 := by revert v; decide

theorem joypLow_extract (v : Byte) (d a : Bool) :
    joypLow (v.extractLsb' 4 2) d a = ((!v.getLsbD 4 && d) || (!v.getLsbD 5 && a)) := by
  simp [joypLow]

/-! ### Buttons (61_timer_dma_io.md R402) -/

theorem pressButton_same {button : Button} {pressed : Bool} {s : State} (h : isPressed button s.buttons = pressed) :
    pressButton button pressed s = s := if_pos h

theorem pressButton_change {button : Button} {pressed : Bool} {s : State} (h : isPressed button s.buttons ≠ pressed) :
    pressButton button pressed s =
      { s with buttons := withButton button pressed s.buttons, ifReg := s.ifReg ||| requestBit .joypad } := if_neg h

/-- Settles O55: at every register's address the bus is `ioRead` and `ioWrite` (`hread`); an address where the decode finds a
register is in the list (`eq_ioAddr`). -/
theorem ioRegistersReadBack : Obligations.IoRegistersReadBack := by
  unfold Obligations.IoRegistersReadBack
  intro s v
  have hread (g : IoReg) : busRead (ioAddr g) (busWrite (ioAddr g) v s) = ioRead g (ioWrite g v s) := by
    rw [busRead_ioAddr, busWrite_ioAddr]
  have hjoyp : busRead 0xFF00 (busWrite 0xFF00 v s) = joypRead (v.extractLsb' 4 2) s.buttons := hread .joyp
  refine ⟨?bytes, ?tac, ?ifr, ?div, ?div16, ?stat, ?joypHigh, ?joypLines, ?buttons, busWrite_ioAddr .ly v s, ?unmapped⟩
  case bytes =>
    show ∀ a ∈ byteRegs.map ioAddr, _
    rw [List.forall_mem_map]
    exact fun g hg => (hread g).trans (ioRead_ioWrite_byteRegs hg v s)
  case tac => exact (hread .tac).trans (congrArg (0xF8 ||| ·) (setWidth_extract_low3 v))
  case ifr => exact (hread .ifr).trans (congrArg (0xE0 ||| ·) (setWidth_extract_low5 v))
  case div => exact (hread .div).trans (show hiByte 0 = 0 by decide)
  case div16 => exact congrArg (·.timer.div16) (busWrite_ioAddr .div v s)
  case stat =>
    rw [show busRead 0xFF41 s = ioRead .stat s from busRead_ioAddr .stat s]
    exact (hread .stat).trans (statRead_ioWrite v s)
  case joypHigh =>
    rw [hjoyp, joypRead_eq, joypByte_high, joypSelect_in_place]
  case joypLines =>
    obtain ⟨h0, h1, h2, h3⟩ := joypRead_lines (v.extractLsb' 4 2) s.buttons
    simp only [joypLow_extract] at h0 h1 h2 h3
    simp only [hjoyp, List.forall_mem_cons]
    exact ⟨h0, h1, h2, h3, List.forall_mem_nil _⟩
  case buttons =>
    rintro button pressed t rfl
    refine ⟨pressButton_same, fun h => ?_⟩
    rw [pressButton_change h]
    refine ⟨?_, fun other hne => ?_, fun k => ?_, rfl⟩
    · simp [isPressed_withButton]
    · simp [isPressed_withButton, hne]
    · rw [BitVec.getLsbD_or, requestBit_getLsbD, Bool.or_comm]
      rfl
  case unmapped =>
    intro a hlo hhi hmem
    have ha : regionOf a = .io := regionOf_eq hlo hhi
    refine unmapped_inert ha (Option.eq_none_iff_forall_ne_some.2 fun g hg => hmem ?_)
    rw [eq_ioAddr ha hg]
    cases g <;> decide

end Sys2Proof.Machine
end

section
/-! The encoder and the decoder are inverse to each other (30_encoding.md R120, R121, R132, R135, R136), from the laws of single
instructions: O5, O6, O7. -/

namespace Sys2Proof.Laws.RoundTrip

/-- Every instruction obeys its law: one law for each constructor, in their order. -/
theorem statement_all : ∀ i : Instr, Statement i :=
  @Instr.rec Statement
    -- the instructions with an operand
    ld_BC_nn ld_B_n ld_inn_SP ld_C_n stop ld_DE_nn ld_D_n jr_e ld_E_n jr_NZ_e ld_HL_nn ld_H_n jr_Z_e ld_L_n jr_NC_e ld_SP_nn
    ld_iHL_n jr_C_e ld_A_n jp_NZ_nn jp_nn call_NZ_nn add_A_n jp_Z_nn prefix_CB call_Z_nn call_nn adc_A_n jp_NC_nn call_NC_nn
    sub_n jp_C_nn call_C_nn sbc_A_n ldh_n_A and_n add_SP_e ld_inn_A xor_n ldh_A_n or_n ld_HL_SPe ld_A_inn cp_n
    -- block 0
    nop ld_iBC_A inc_BC inc_B dec_B rlca add_HL_BC ld_A_iBC dec_BC inc_C dec_C rrca ld_iDE_A inc_DE inc_D dec_D rla
    add_HL_DE ld_A_iDE dec_DE inc_E dec_E rra ld_iHLp_A inc_HL inc_H dec_H daa add_HL_HL ld_A_iHLp dec_HL inc_L dec_L cpl
    ld_iHLm_A inc_SP inc_iHL dec_iHL scf add_HL_SP ld_A_iHLm dec_SP inc_A dec_A ccf
    -- blocks 1 and 2: two rows `y` to a line
    ld_B_B ld_B_C ld_B_D ld_B_E ld_B_H ld_B_L ld_B_iHL ld_B_A ld_C_B ld_C_C ld_C_D ld_C_E ld_C_H ld_C_L ld_C_iHL ld_C_A
    ld_D_B ld_D_C ld_D_D ld_D_E ld_D_H ld_D_L ld_D_iHL ld_D_A ld_E_B ld_E_C ld_E_D ld_E_E ld_E_H ld_E_L ld_E_iHL ld_E_A
    ld_H_B ld_H_C ld_H_D ld_H_E ld_H_H ld_H_L ld_H_iHL ld_H_A ld_L_B ld_L_C ld_L_D ld_L_E ld_L_H ld_L_L ld_L_iHL ld_L_A
    ld_iHL_B ld_iHL_C ld_iHL_D ld_iHL_E ld_iHL_H ld_iHL_L halt ld_iHL_A ld_A_B ld_A_C ld_A_D ld_A_E ld_A_H ld_A_L ld_A_iHL ld_A_A
    add_A_B add_A_C add_A_D add_A_E add_A_H add_A_L add_A_iHL add_A_A adc_A_B adc_A_C adc_A_D adc_A_E adc_A_H adc_A_L adc_A_iHL adc_A_A
    sub_B sub_C sub_D sub_E sub_H sub_L sub_iHL sub_A sbc_A_B sbc_A_C sbc_A_D sbc_A_E sbc_A_H sbc_A_L sbc_A_iHL sbc_A_A
    and_B and_C and_D and_E and_H and_L and_iHL and_A xor_B xor_C xor_D xor_E xor_H xor_L xor_iHL xor_A
    or_B or_C or_D or_E or_H or_L or_iHL or_A cp_B cp_C cp_D cp_E cp_H cp_L cp_iHL cp_A
    -- block 3
    ret_NZ pop_BC push_BC rst_00H ret_Z ret rst_08H ret_NC pop_DE illegal_D3 push_DE rst_10H ret_C reti illegal_DB
    illegal_DD rst_18H pop_HL ld_iC_A illegal_E3 illegal_E4 push_HL rst_20H jp_HL illegal_EB illegal_EC illegal_ED rst_28H
    pop_AF ld_A_iC di illegal_F4 push_AF rst_30H ld_SP_HL ei illegal_FC illegal_FD rst_38H
    -- the CB table: two rows `y` to a line
    rlc_B rlc_C rlc_D rlc_E rlc_H rlc_L rlc_iHL rlc_A rrc_B rrc_C rrc_D rrc_E rrc_H rrc_L rrc_iHL rrc_A
    rl_B rl_C rl_D rl_E rl_H rl_L rl_iHL rl_A rr_B rr_C rr_D rr_E rr_H rr_L rr_iHL rr_A
    sla_B sla_C sla_D sla_E sla_H sla_L sla_iHL sla_A sra_B sra_C sra_D sra_E sra_H sra_L sra_iHL sra_A
    swap_B swap_C swap_D swap_E swap_H swap_L swap_iHL swap_A srl_B srl_C srl_D srl_E srl_H srl_L srl_iHL srl_A
    bit_0_B bit_0_C bit_0_D bit_0_E bit_0_H bit_0_L bit_0_iHL bit_0_A bit_1_B bit_1_C bit_1_D bit_1_E bit_1_H bit_1_L bit_1_iHL bit_1_A
    bit_2_B bit_2_C bit_2_D bit_2_E bit_2_H bit_2_L bit_2_iHL bit_2_A bit_3_B bit_3_C bit_3_D bit_3_E bit_3_H bit_3_L bit_3_iHL bit_3_A
    bit_4_B bit_4_C bit_4_D bit_4_E bit_4_H bit_4_L bit_4_iHL bit_4_A bit_5_B bit_5_C bit_5_D bit_5_E bit_5_H bit_5_L bit_5_iHL bit_5_A
    bit_6_B bit_6_C bit_6_D bit_6_E bit_6_H bit_6_L bit_6_iHL bit_6_A bit_7_B bit_7_C bit_7_D bit_7_E bit_7_H bit_7_L bit_7_iHL bit_7_A
    res_0_B res_0_C res_0_D res_0_E res_0_H res_0_L res_0_iHL res_0_A res_1_B res_1_C res_1_D res_1_E res_1_H res_1_L res_1_iHL res_1_A
    res_2_B res_2_C res_2_D res_2_E res_2_H res_2_L res_2_iHL res_2_A res_3_B res_3_C res_3_D res_3_E res_3_H res_3_L res_3_iHL res_3_A
    res_4_B res_4_C res_4_D res_4_E res_4_H res_4_L res_4_iHL res_4_A res_5_B res_5_C res_5_D res_5_E res_5_H res_5_L res_5_iHL res_5_A
    res_6_B res_6_C res_6_D res_6_E res_6_H res_6_L res_6_iHL res_6_A res_7_B res_7_C res_7_D res_7_E res_7_H res_7_L res_7_iHL res_7_A
    set_0_B set_0_C set_0_D set_0_E set_0_H set_0_L set_0_iHL set_0_A set_1_B set_1_C set_1_D set_1_E set_1_H set_1_L set_1_iHL set_1_A
    set_2_B set_2_C set_2_D set_2_E set_2_H set_2_L set_2_iHL set_2_A set_3_B set_3_C set_3_D set_3_E set_3_H set_3_L set_3_iHL set_3_A
    set_4_B set_4_C set_4_D set_4_E set_4_H set_4_L set_4_iHL set_4_A set_5_B set_5_C set_5_D set_5_E set_5_H set_5_L set_5_iHL set_5_A
    set_6_B set_6_C set_6_D set_6_E set_6_H set_6_L set_6_iHL set_6_A set_7_B set_7_C set_7_D set_7_E set_7_H set_7_L set_7_iHL set_7_A

end Sys2Proof.Laws.RoundTrip

namespace Sys2Proof

/-! ## Decoding what was encoded -/

/-- An encoding is one, two or three bytes, of which the first tells the number and which decode to the instruction. -/
theorem decodeBytes_encode_append {i : Instr} (hwf : i.wellFormed = true) (rest : List Byte) :
    decodeBytes (encode i ++ rest) = .ok (i, rest) := by
  have law := Laws.RoundTrip.statement_all i hwf
  split at law
  case h_1 henc | h_2 henc | h_3 henc => simp [henc, decodeBytes, law]
  case h_4 => exact law.elim

/-- Settles O5: the encoding of each instruction decodes to it, by the law of that instruction. -/
theorem decodeOfEncodeIsTheInstruction : Obligations.DecodeOfEncodeIsTheInstruction :=
  fun _ hwf rest => decodeBytes_encode_append hwf rest

/-! ## Every three bytes begin with an encoding -/

theorem lengthOf_cases (b0 : Byte) : lengthOf b0 = 1 ∨ lengthOf b0 = 2 ∨ lengthOf b0 = 3 := by
  unfold lengthOf
  split_ifs <;> simp

/-- The bytes spell a well-formed instruction, and nothing follows it. -/
def IsEncoding (bytes : List Byte) : Prop := ∃ i : Instr, i.wellFormed = true ∧ encode i = bytes

theorem wellFormed_decodeCb (op2 : Byte) : (decodeCb op2).wellFormed = true := by
  revert op2; decide

/-- A one-byte instruction is in the main table without an immediate. -/
theorem isEncoding_one {b0 : Byte} (h : lengthOf b0 = 1) : IsEncoding [b0] := by
  have hwf : ∀ op, (decode op 0 0).wellFormed = true := by decide
  have hcb : b0 ≠ Config.cbPrefix := by
    rintro rfl
    exact absurd h (by decide)
  have hrow : encode (decode b0 0 0) = [b0] := by
    simpa [encodingOf, formatOf, rowInstr, immediatePattern, patternBytes, hcb, h] using (encodingOf_main b0 hcb).symm
  exact ⟨decode b0 0 0, hwf b0, hrow⟩

/-- A two-byte instruction carries its second byte as it is; after 0xCB the second byte selects in the CB table (R135). -/
theorem isEncoding_two {b0 : Byte} (h : lengthOf b0 = 2) (b1 : Byte) : IsEncoding [b0, b1] := by
  by_cases hcb : b0 = 0xCB
  · exact hcb ▸ ⟨decodeCb b1, wellFormed_decodeCb b1, (encodingOf_cb b1).symm⟩
  · unfold lengthOf at h
    split_ifs at h with _ hmem
    · contradiction
    · refine ⟨decode b0 b1 0, ?_⟩
      have hmain := (List.mem_erase_of_ne hcb).2 hmem
      fin_cases hmain <;> exact ⟨rfl, rfl⟩
    · contradiction

/-- A three-byte instruction carries a word, whose halves are the second and the third byte (R125). -/
theorem isEncoding_three {b0 : Byte} (h : lengthOf b0 = 3) (b1 b2 : Byte) : IsEncoding [b0, b1, b2] := by
  have halves : [b0, loByte (wordOf b2 b1), hiByte (wordOf b2 b1)] = [b0, b1, b2] := by simp
  unfold lengthOf at h
  split_ifs at h with hmem
  · refine ⟨decode b0 b1 b2, ?_⟩
    fin_cases hmem <;> exact ⟨rfl, halves⟩
  all_goals contradiction

theorem isEncoding_take_lengthOf (b0 b1 b2 : Byte) : IsEncoding ([b0, b1, b2].take (lengthOf b0)) := by
  obtain h | h | h := lengthOf_cases b0
  · exact h ▸ isEncoding_one h
  · exact h ▸ isEncoding_two h b1
  · exact h ▸ isEncoding_three h b1 b2

/-- No three bytes are too short for the instruction they begin with. -/
theorem decodeBytes_three (b0 b1 b2 : Byte) :
    decodeBytes [b0, b1, b2] = .ok (decode b0 b1 b2, [b1, b2].drop (lengthOf b0 - 1)) := by
  obtain h | h | h := lengthOf_cases b0 <;> simp [decodeBytes, h]

/-- The instruction whose encoding the bytes begin with is the one that they decode to, by the round trip of O5. -/
theorem decode_wellFormed_and_encode (b0 b1 b2 : Byte) :
    (decode b0 b1 b2).wellFormed = true ∧ encode (decode b0 b1 b2) = [b0, b1, b2].take (lengthOf b0) := by
  obtain ⟨i, hwf, henc⟩ := isEncoding_take_lengthOf b0 b1 b2
  have hdec := decodeBytes_encode_append hwf ([b0, b1, b2].drop (lengthOf b0))
  rw [henc, List.take_append_drop, decodeBytes_three] at hdec
  have hi : decode b0 b1 b2 = i := congrArg Prod.fst (Except.ok.inj hdec)
  exact hi ▸ ⟨hwf, henc⟩

/-- Settles O6: the three bytes begin with the encoding of what they decode to, `lengthOf` bytes long. -/
theorem encodeOfDecodeIsTheBytes : Obligations.EncodeOfDecodeIsTheBytes := by
  intro b0 b1 b2
  obtain ⟨hwf, henc⟩ := decode_wellFormed_and_encode b0 b1 b2
  rw [henc]
  refine ⟨hwf, ?_, _, List.take_append_drop _ _⟩
  obtain h | h | h := lengthOf_cases b0 <;> simp [h]

/-! ## Words from the tables -/

/-- Settles O7: the decoder is run on each of the words. -/
theorem wordsDecodeAsTheTablesSay : Obligations.WordsDecodeAsTheTablesSay := by
  unfold Obligations.WordsDecodeAsTheTablesSay
  decide

end Sys2Proof
end

section
/-! The 8-bit loads and stores (40_load8.md R150 to R169) are all `load8`, described once for a register as the destination and once
for a place in memory. The claims compare the states before and after with the register file put back, so an instruction's frame
follows from what `State.withRegistersOf` does to each operation: O21 to O25. -/

namespace Sys2Proof.Machine

/-! ## The register file put back -/

/-- `t` with the register file, PC and the count of M-cycles of `s`: what the frames of the claims compare. -/
def State.withRegistersOf (t s : State) : State :=
  { t with
    a := s.a, f := s.f, b := s.b, c := s.c, d := s.d, e := s.e, h := s.h, l := s.l, sp := s.sp, pc := s.pc,
    cyclesLeft := s.cyclesLeft }

/-- `t` with `n` M-cycles to pass. -/
def State.withCyclesLeft (n : Nat) (t : State) : State := { t with cyclesLeft := n }

theorem done_eq (n : Nat) (t : State) : done n t = .next (t.withCyclesLeft n) := rfl

section Frames

variable {s t : State}

@[simp] theorem withCyclesLeft_f (n : Nat) (t : State) : (t.withCyclesLeft n).f = t.f := rfl

@[simp] theorem withCyclesLeft_sp (n : Nat) (t : State) : (t.withCyclesLeft n).sp = t.sp := rfl

@[simp] theorem withCyclesLeft_pc (n : Nat) (t : State) : (t.withCyclesLeft n).pc = t.pc := rfl

@[simp] theorem withRegistersOf_self (s : State) : s.withRegistersOf s = s := rfl

@[simp] theorem skip_withRegistersOf (n : Nat) (t s : State) : (skip n t).withRegistersOf s = t.withRegistersOf s := rfl

@[simp] theorem withCyclesLeft_withRegistersOf (n : Nat) (t s : State) :
    (t.withCyclesLeft n).withRegistersOf s = t.withRegistersOf s := rfl

@[simp] theorem setR8_withRegistersOf (r : R8) (v : Byte) (t s : State) :
    (setR8 r v t).withRegistersOf s = t.withRegistersOf s := by cases r <;> rfl

@[simp] theorem operandSideEffect_withRegistersOf (o : Operand8) (t s : State) :
    (operandSideEffect o t).withRegistersOf s = t.withRegistersOf s := by cases o <;> rfl

/-- A bus write does not look at the register file, PC or the count. -/
@[simp] theorem busWrite_withRegistersOf (a : Word) (v : Byte) (t s : State) :
    (busWrite a v t).withRegistersOf s = busWrite a v (t.withRegistersOf s) := by
  unfold busWrite
  cases regionOf a
  case vram | oam => exact apply_ite (State.withRegistersOf · s) _ _ _
  case io =>
    dsimp only
    cases ioRegAt (loByte a) with
    | none => rfl
    | some g => cases g <;> rfl
  all_goals rfl

/-- A bus read does not look at them either. -/
theorem busRead_withRegistersOf (x : Word) (t s : State) : busRead x (t.withRegistersOf s) = busRead x t :=
  busRead_congr (by constructor <;> rfl) x

theorem onlyRegisters_of_withRegistersOf (h : t.withRegistersOf s = s) : OnlyRegisters s t :=
  ⟨h, fun x => by rw [← busRead_withRegistersOf x t s, h]⟩

theorem stored_of_withRegistersOf {addr : Word} {v : Byte} (h : t.withRegistersOf s = busWrite addr v s) : Stored addr v s t :=
  ⟨h, fun x hx => by rw [← busRead_withRegistersOf x t s, h, busRead_busWrite_of_not_reached hx]⟩

end Frames

/-! ## Reading one register -/

@[simp] theorem getR8_skip (r : R8) (n : Nat) (s : State) : getR8 r (skip n s) = getR8 r s := by cases r <;> rfl

@[simp] theorem getR8_withCyclesLeft (r : R8) (n : Nat) (s : State) : getR8 r (s.withCyclesLeft n) = getR8 r s := by
  cases r <;> rfl

@[simp] theorem getR8_busWrite (r : R8) (a : Word) (v : Byte) (s : State) : getR8 r (busWrite a v s) = getR8 r s := by
  cases r <;> simp [getR8]

theorem getR8_setHL_other {r : R8} (hr : r ∉ [R8.h, R8.l]) (v : Word) (s : State) : getR8 r (setHL v s) = getR8 r s := by
  cases r
  case h | l => simp at hr
  all_goals rfl

/-- HL is read from two registers. -/
theorem regHL_congr {s t : State} (hh : getR8 .h t = getR8 .h s) (hl : getR8 .l t = getR8 .l s) : regHL t = regHL s :=
  congrArg₂ wordOf hh hl

/-! ## The operands (30_encoding.md R124) -/

/-- The high page is added to, never wrapped (R125). -/
theorem highPage_eq (n : Byte) : highPage n = BitVec.ofNat 16 (0xFF00 + n.toNat) := by
  revert n; decide

section Operands

variable {o : Operand8} {a : Word} {s t : State}

@[simp] theorem operandSideEffect_f (o : Operand8) (s : State) : (operandSideEffect o s).f = s.f := by cases o <;> rfl

@[simp] theorem operandSideEffect_sp (o : Operand8) (s : State) : (operandSideEffect o s).sp = s.sp := by cases o <;> rfl

@[simp] theorem operandSideEffect_pc (o : Operand8) (s : State) : (operandSideEffect o s).pc = s.pc := by cases o <;> rfl

/-- An operand's value does not depend on PC: its immediate bytes are fetched already. -/
@[simp] theorem operandValue_skip (o : Operand8) (n : Nat) (s : State) : operandValue o (skip n s) = operandValue o s := by
  cases o
  case imm => rfl
  case reg r => exact getR8_skip r n s
  case ind p => cases p <;> exact busRead_skip n s _
  all_goals exact busRead_skip n s _

@[simp] theorem operandAddr_skip (o : Operand8) (n : Nat) (s : State) : operandAddr o (skip n s) = operandAddr o s := by
  cases o
  case ind p => cases p <;> rfl
  all_goals rfl

/-- Writing an operand in memory is a bus write at its address, and then the change of HL. -/
theorem operandWrite_of_addr (h : operandAddr o s = some a) (v : Byte) :
    operandWrite o v s = operandSideEffect o (busWrite a v s) := by
  cases o <;> cases h <;> rfl

/-- What an operand does to HL depends on the registers alone. -/
theorem getR8_operandSideEffect_congr (h : ∀ r, getR8 r t = getR8 r s) (o : Operand8) (r : R8) :
    getR8 r (operandSideEffect o t) = getR8 r (operandSideEffect o s) := by
  have hhl : regHL t = regHL s := regHL_congr (h .h) (h .l)
  have hset (v : Word) : getR8 r (setHL v t) = getR8 r (setHL v s) := by
    have hr := h r
    cases r
    case h | l => rfl
    all_goals exact hr
  cases o <;> simp only [operandSideEffect, hhl, hset, h]

end Operands

/-! ## `load8` into a register -/

/-- The destination holds the operand's value from before the write; the other registers are what using the source left of them. -/
theorem load8_reg (dst : R8) (src : Operand8) (len cycles : Nat) (s : State) :
    ∃ t, load8 (.reg dst) src len cycles s = .next t ∧ getR8 dst t = operandValue src s ∧
      (∀ r, r ≠ dst → getR8 r t = getR8 r (operandSideEffect src s)) ∧
      t.f = s.f ∧ t.sp = s.sp ∧ Ends len cycles s t ∧ OnlyRegisters s t := by
  refine ⟨_, done_eq _ _, ?value, fun r hr => ?others, ?f, ?sp, ⟨?pc, rfl⟩, onlyRegisters_of_withRegistersOf ?frame⟩
  case others =>
    simp only [operandWrite, getR8_withCyclesLeft]
    rw [getR8_setR8_other _ _ hr.symm]
    exact getR8_operandSideEffect_congr (fun r => getR8_skip r len s) src r
  all_goals simp [operandWrite]

/-- A load from a register, an immediate or a place whose use does not change HL. -/
theorem loadsTo_of_load8 {i : Instr} {dst : R8} (src : Operand8) {len cycles : Nat}
    (hexec : ∀ s, exec i s = load8 (.reg dst) src len cycles s)
    (hsrc : ∀ s, operandSideEffect src s = s := by intro; rfl) : LoadsTo i dst (operandValue src) len cycles := by
  intro s
  obtain ⟨t, hload, hdst, hothers, hframe⟩ := load8_reg dst src len cycles s
  rw [hsrc] at hothers
  exact ⟨t, (hexec s).trans hload, hdst, fun r hr => hothers r (by simpa using hr), hframe⟩

/-- What O23 says of each of its two instructions: A is loaded from HL, then HL moves. -/
def LoadsAMovingHl (i : Instr) (move : Word → Word) : Prop :=
  ∀ s : State, ∃ t, exec i s = .next t ∧ t.a = busRead (regHL s) s ∧ regHL t = move (regHL s) ∧
    SameRegisters [.a, .h, .l] s t ∧ t.f = s.f ∧ t.sp = s.sp ∧ Ends 1 2 s t ∧ OnlyRegisters s t

theorem loadsAMovingHl_of_load8 {i : Instr} (src : Operand8) {move : Word → Word}
    (hexec : ∀ s, exec i s = load8 (.reg .a) src 1 2 s)
    (hvalue : ∀ s, operandValue src s = busRead (regHL s) s := by intro; rfl)
    (hsrc : ∀ s, operandSideEffect src s = setHL (move (regHL s)) s := by intro; rfl) : LoadsAMovingHl i move := by
  intro s
  obtain ⟨t, hload, ha, hothers, hframe⟩ := load8_reg .a src 1 2 s
  rw [hsrc] at hothers
  refine ⟨t, (hexec s).trans hload, ha.trans (hvalue s), ?_, fun r hr => ?_, hframe⟩
  · rw [regHL_congr (hothers .h (by decide)) (hothers .l (by decide)), regHL_setHL]
  · obtain ⟨hra, hrhl⟩ : r ≠ .a ∧ r ∉ [R8.h, R8.l] := by simpa using hr
    rw [hothers r hra, getR8_setHL_other hrhl]

/-! ## `load8` into memory -/

/-- The source's value is stored at the operand's address; the registers are what using the operand left of them. -/
theorem load8_memory {dst src : Operand8} {a : Word} {s : State} (len cycles : Nat) (ha : operandAddr dst s = some a)
    (hsrc : ∀ t, operandSideEffect src t = t) :
    ∃ t, load8 dst src len cycles s = .next t ∧ Stored a (operandValue src s) s t ∧
      (∀ r, getR8 r t = getR8 r (operandSideEffect dst s)) ∧ t.f = s.f ∧ t.sp = s.sp ∧ Ends len cycles s t := by
  have hwrite := operandWrite_of_addr ((operandAddr_skip dst len s).trans ha) (operandValue src s)
  refine ⟨(operandSideEffect dst (busWrite a (operandValue src s) (skip len s))).withCyclesLeft cycles, ?run,
    stored_of_withRegistersOf ?frame, fun r => ?registers, ?f, ?sp, ?pc, rfl⟩
  case run => simp only [load8, done_eq, hsrc, operandValue_skip, hwrite]
  case registers =>
    rw [getR8_withCyclesLeft]
    exact getR8_operandSideEffect_congr (fun r => by simp) dst r
  all_goals simp

/-- A store into a place whose use does not change HL. -/
theorem storesByte_of_load8 {i : Instr} (dst src : Operand8) {addr : State → Word} {len cycles : Nat}
    (hexec : ∀ s, exec i s = load8 dst src len cycles s)
    (haddr : ∀ s, operandAddr dst s = some (addr s) := by intro; rfl)
    (hdst : ∀ s, operandSideEffect dst s = s := by intro; rfl) (hsrc : ∀ s, operandSideEffect src s = s := by intro; rfl) :
    StoresByte i addr (operandValue src) len cycles := by
  intro s
  obtain ⟨t, hstore, hstored, hregs, hframe⟩ := load8_memory len cycles (haddr s) hsrc
  rw [hdst] at hregs
  exact ⟨t, (hexec s).trans hstore, hstored, fun r _ => hregs r, hframe⟩

/-- What O25 says of each of its two instructions: A is stored at HL, then HL moves. -/
def StoresAMovingHl (i : Instr) (move : Word → Word) : Prop :=
  ∀ s : State, ∃ t, exec i s = .next t ∧ Stored (regHL s) s.a s t ∧ regHL t = move (regHL s) ∧
    SameRegisters [.h, .l] s t ∧ t.f = s.f ∧ t.sp = s.sp ∧ Ends 1 2 s t

theorem storesAMovingHl_of_load8 {i : Instr} (dst : Operand8) {move : Word → Word}
    (hexec : ∀ s, exec i s = load8 dst (.reg .a) 1 2 s)
    (haddr : ∀ s, operandAddr dst s = some (regHL s) := by intro; rfl)
    (hdst : ∀ s, operandSideEffect dst s = setHL (move (regHL s)) s := by intro; rfl) : StoresAMovingHl i move := by
  intro s
  obtain ⟨t, hstore, hstored, hregs, hframe⟩ := load8_memory 1 2 (haddr s) (src := .reg .a) (fun _ => rfl)
  rw [hdst] at hregs
  refine ⟨t, (hexec s).trans hstore, hstored, ?_, fun r hr => ?_, hframe⟩
  · rw [regHL_congr (hregs .h) (hregs .l), regHL_setHL]
  · rw [hregs r, getR8_setHL_other hr]

/-! ## The claims -/

/-- Settles O21: each family is `load8` into its register (`Laws/Exec`), from an operand that leaves HL alone. -/
theorem registerLoads : Obligations.RegisterLoads := by
  unfold Obligations.RegisterLoads
  refine ⟨fun dst r => ⟨?_, loadsTo_of_load8 (.reg r) (exec_ldRegReg dst r)⟩,
    fun dst n => ⟨?_, loadsTo_of_load8 (.imm n) (exec_ldRegImm dst n)⟩,
    fun dst => ⟨?_, loadsTo_of_load8 (.ind .hl) (exec_ldRegInd dst)⟩⟩
  · cases dst <;> cases r <;> rfl
  · cases dst <;> rfl
  · cases dst <;> rfl

/-- Settles O22: using the place that is read leaves HL alone; LDH's addresses are the high page's (`highPage_eq`). -/
theorem accumulatorLoads : Obligations.AccumulatorLoads := by
  unfold Obligations.AccumulatorLoads
  simp only [← highPage_eq]
  exact ⟨rfl, loadsTo_of_load8 (.ind .bc) fun _ => rfl,
    rfl, loadsTo_of_load8 (.ind .de) fun _ => rfl,
    fun nn => ⟨rfl, loadsTo_of_load8 (.abs nn) fun _ => rfl⟩,
    fun n => ⟨rfl, loadsTo_of_load8 (.high n) fun _ => rfl⟩,
    rfl, loadsTo_of_load8 .highC fun _ => rfl⟩

/-- Settles O23: HL moves before A is written, and A is neither half of HL. -/
theorem accumulatorLoadsMovingHl : Obligations.AccumulatorLoadsMovingHl :=
  ⟨rfl, rfl, loadsAMovingHl_of_load8 .hlInc (move := (· + 1)) fun _ => rfl,
    loadsAMovingHl_of_load8 .hlDec (move := (· - 1)) fun _ => rfl⟩

/-- Settles O24: each instruction is `load8` into its place, from a register or an immediate. -/
theorem byteStores : Obligations.ByteStores := by
  unfold Obligations.ByteStores
  simp only [← highPage_eq]
  refine ⟨fun r => ⟨?_, storesByte_of_load8 (.ind .hl) (.reg r) (exec_ldIndReg r)⟩,
    fun n => ⟨rfl, storesByte_of_load8 (.ind .hl) (.imm n) fun _ => rfl⟩,
    rfl, storesByte_of_load8 (.ind .bc) (.reg .a) fun _ => rfl,
    rfl, storesByte_of_load8 (.ind .de) (.reg .a) fun _ => rfl,
    fun nn => ⟨rfl, storesByte_of_load8 (.abs nn) (.reg .a) fun _ => rfl⟩,
    fun n => ⟨rfl, storesByte_of_load8 (.high n) (.reg .a) fun _ => rfl⟩,
    rfl, storesByte_of_load8 .highC (.reg .a) fun _ => rfl⟩
  cases r <;> rfl

/-- Settles O25: the bus write comes first, whatever the bus does with it, and then HL moves. -/
theorem storesMovingHl : Obligations.StoresMovingHl :=
  ⟨rfl, rfl, storesAMovingHl_of_load8 .hlInc (move := (· + 1)) fun _ => rfl,
    storesAMovingHl_of_load8 .hlDec (move := (· - 1)) fun _ => rfl⟩

end Sys2Proof.Machine
end

section
/-! The 16-bit loads and the stack instructions (41_load16_stack.md R180 to R187), and the sum of SP and a signed byte that
LD HL,SP+e and ADD SP,e share (43_alu16.md R244, R245). Each is one shared operation of the model: what a pair's write, a flag
write, a push and a pop leave in the registers is said once, and the frames come from the register file put back
(`State.withRegistersOf`): O26 to O30. -/

namespace Sys2Proof.Machine

/-! ## The register file put back -/

@[simp] theorem setHL_withRegistersOf (v : Word) (t s : State) : (setHL v t).withRegistersOf s = t.withRegistersOf s := rfl

@[simp] theorem setPair_withRegistersOf (p : R16) (v : Word) (t s : State) :
    (setPair p v t).withRegistersOf s = t.withRegistersOf s := by cases p <;> rfl

@[simp] theorem setStk_withRegistersOf (p : R16Stk) (v : Word) (t s : State) :
    (setStk p v t).withRegistersOf s = t.withRegistersOf s := by cases p <;> rfl

@[simp] theorem setFlags_withRegistersOf (z n h c : Bool) (t s : State) :
    (setFlags z n h c t).withRegistersOf s = t.withRegistersOf s := rfl

@[simp] theorem popState_withRegistersOf (t s : State) : (popState t).withRegistersOf s = t.withRegistersOf s := rfl

/-- A push is its two bus writes; SP is put back. -/
@[simp] theorem push16_withRegistersOf (v : Word) (t s : State) :
    (push16 v t).withRegistersOf s =
      busWrite (t.sp - 2) (loByte v) (busWrite (t.sp - 1) (hiByte v) (t.withRegistersOf s)) := by
  rw [push16_eq, ← busWrite_withRegistersOf, ← busWrite_withRegistersOf]
  rfl

theorem storedTwo_of_withRegistersOf {addr addr' : Word} {v v' : Byte} {s t : State}
    (h : t.withRegistersOf s = busWrite addr' v' (busWrite addr v s)) : StoredTwo addr v addr' v' s t := by
  refine ⟨h, fun x hx hx' => ?_⟩
  rw [← busRead_withRegistersOf x t s, h, busRead_busWrite_of_not_reached hx', busRead_busWrite_of_not_reached hx]

/-! ## The pairs (30_encoding.md R123) -/

@[simp] theorem withCyclesLeft_a (n : Nat) (t : State) : (t.withCyclesLeft n).a = t.a := rfl

@[simp] theorem getPair_skip (p : R16) (n : Nat) (s : State) : getPair p (skip n s) = getPair p s := by cases p <;> rfl

@[simp] theorem getPair_withCyclesLeft (p : R16) (n : Nat) (s : State) : getPair p (s.withCyclesLeft n) = getPair p s := by
  cases p <;> rfl

theorem getPair_setPair_other {p q : R16} (h : q ≠ p) (v : Word) (s : State) : getPair q (setPair p v s) = getPair q s := by
  cases p <;> cases q
  case bc.bc | de.de | hl.hl | sp.sp => exact absurd rfl h
  all_goals rfl

@[simp] theorem getStk_skip (p : R16Stk) (n : Nat) (s : State) : getStk p (skip n s) = getStk p s := by cases p <;> rfl

@[simp] theorem getStk_popState (p : R16Stk) (s : State) : getStk p (popState s) = getStk p s := by cases p <;> rfl

@[simp] theorem getStk_withCyclesLeft (p : R16Stk) (n : Nat) (s : State) : getStk p (s.withCyclesLeft n) = getStk p s := by
  cases p <;> rfl

/-- Clearing a word's low nibble clears its low byte's. -/
theorem and_fff0_eq_wordOf (v : Word) : v &&& 0xFFF0 = wordOf (hiByte v) (loByte v &&& 0xF0) :=
  calc v &&& 0xFFF0 = wordOf (hiByte v) (loByte v) &&& 0xFFF0 := by rw [wordOf_halves]
    _ = wordOf (hiByte v &&& 0xFF) (loByte v &&& 0xF0) :=
      BitVec.and_append (x₁ := hiByte v) (x₂ := 0xFF) (y₁ := loByte v) (y₂ := 0xF0)
    _ = wordOf (hiByte v) (loByte v &&& 0xF0) := congrArg (wordOf · _) BitVec.and_allOnes

/-- Every pair holds the word written to it, but for F's low nibble (R187). -/
theorem getStk_setStk_same (p : R16Stk) (v : Word) (s : State) :
    getStk p (setStk p v s) = if p = .af then v &&& 0xFFF0 else v := by
  cases p
  case af => exact (and_fff0_eq_wordOf v).symm
  all_goals exact wordOf_halves v

theorem getStk_setStk_other {p q : R16Stk} (h : q ≠ p) (v : Word) (s : State) : getStk q (setStk p v s) = getStk q s := by
  cases p <;> cases q
  case bc.bc | de.de | hl.hl | af.af => exact absurd rfl h
  all_goals rfl

/-! ## The flags -/

theorem flagsAre_setFlags (z n h c : Bool) (s : State) : FlagsAre z n h c (setFlags z n h c s) :=
  ⟨flagZ_setFlags z n h c s, flagN_setFlags z n h c s, flagH_setFlags z n h c s, flagC_setFlags z n h c s, setF_low_nibble _ s⟩

theorem flagsAre_withCyclesLeft {z n h c : Bool} {t : State} (k : Nat) (hf : FlagsAre z n h c t) :
    FlagsAre z n h c (t.withCyclesLeft k) := hf

/-- The flags after a write of AF are bits 7 to 4 of the word. -/
theorem flagsAre_setStk_af (v : Word) (s : State) :
    FlagsAre (v.getLsbD 7) (v.getLsbD 6) (v.getLsbD 5) (v.getLsbD 4) (setStk .af v s) := by
  refine ⟨?_, ?_, ?_, ?_, setF_low_nibble _ _⟩ <;> simp [setStk, loByte]

@[simp] theorem getR8_setFlags (r : R8) (z n h c : Bool) (s : State) : getR8 r (setFlags z n h c s) = getR8 r s := by
  cases r <;> rfl

/-! ## The stack (00_scope.md R11) -/

@[simp] theorem push16_f (v : Word) (s : State) : (push16 v s).f = s.f := by simp [push16_eq]

@[simp] theorem push16_pc (v : Word) (s : State) : (push16 v s).pc = s.pc := by simp [push16_eq]

@[simp] theorem push16_sp (v : Word) (s : State) : (push16 v s).sp = s.sp - 2 := by simp [push16_eq]

@[simp] theorem getR8_push16 (r : R8) (v : Word) (s : State) : getR8 r (push16 v s) = getR8 r s := by
  cases r <;> simp [getR8, push16_eq]

/-! ## SP plus a signed byte (R245) -/

/-- The sign-extended byte, added modulo 2^16, is the byte's signed value added and narrowed. -/
theorem add_sext16 (sp : Word) (e : Byte) : sp + sext16 e = BitVec.ofInt 16 ((sp.toNat : Int) + e.toInt) := by
  rw [BitVec.ofInt_add, BitVec.ofInt_natCast, BitVec.ofNat_toNat, BitVec.setWidth_eq]
  rfl

end Sys2Proof.Machine

/-! ## The claims -/

namespace Sys2Proof

open Machine

/-- Settles O26: both are one register write; a write of one pair leaves the others. -/
theorem pairLoads : Obligations.PairLoads := by
  unfold Obligations.PairLoads
  refine ⟨fun p nn => ⟨?encoding, fun s => ?immediate⟩, rfl, fun s => ?fromHl⟩
  case encoding => cases p <;> rfl
  case immediate =>
    rw [exec_ldPairImm]
    refine ⟨_, done_eq _ _, ?value, fun q hq => ?others, ?a, ?f, ⟨?pc, rfl⟩, onlyRegisters_of_withRegistersOf ?frame⟩
    case others => simp [getPair_setPair_other hq]
    all_goals simp
  case fromHl =>
    exact ⟨_, done_eq _ _, rfl, fun r _ => by cases r <;> rfl, rfl, ⟨rfl, rfl⟩, onlyRegisters_of_withRegistersOf rfl⟩

/-- Settles O27: `busWrite16` is two bus writes, the low byte first. -/
theorem storeStackPointer : Obligations.StoreStackPointer := by
  intro nn
  refine ⟨rfl, fun s => ⟨_, done_eq _ _, storedTwo_of_withRegistersOf ?stores, fun r _ => ?registers, ?f, ?sp, ⟨?pc, rfl⟩⟩⟩
  all_goals simp [busWrite16]

/-- Settles O28: both are `SpPlusE` (R245), whose sum is the signed one (`add_sext16`). -/
theorem stackPointerPlusOffset : Obligations.StackPointerPlusOffset := by
  intro e
  refine ⟨rfl, rfl, fun s => ?_⟩
  dsimp only
  rw [← add_sext16]
  constructor
  · refine ⟨_, done_eq _ _, regHL_setHL _ (skip 2 s), flagsAre_withCyclesLeft _ (flagsAre_setFlags _ _ _ _ _),
      fun r hr => ?registers, rfl, ⟨rfl, rfl⟩, onlyRegisters_of_withRegistersOf rfl⟩
    rw [getR8_withCyclesLeft, getR8_setFlags, getR8_setHL_other hr, getR8_skip]
  · exact ⟨_, done_eq _ _, rfl, flagsAre_withCyclesLeft _ (flagsAre_setFlags _ _ _ _ _), fun r _ => by cases r <;> rfl,
      ⟨rfl, rfl⟩, onlyRegisters_of_withRegistersOf rfl⟩

/-- Settles O29: the push is two bus writes, the high byte first (`push16_eq`). -/
theorem pushPair : Obligations.PushPair := by
  intro p
  refine ⟨by cases p <;> rfl, fun s => ?_⟩
  rw [exec_push]
  refine ⟨_, done_eq _ _, storedTwo_of_withRegistersOf ?stores, ?sp, fun r _ => ?registers, ?f, ⟨?pc, rfl⟩⟩
  all_goals simp

/-- Settles O30: the popped word goes to the pair, and AF alone masks it (`getStk_setStk_same`). -/
theorem popPair : Obligations.PopPair := by
  intro p
  refine ⟨by cases p <;> rfl, fun s => ?_⟩
  rw [exec_pop]
  refine ⟨_, done_eq _ _, ?value, ?flags, fun q hq => ?others, ?sp, ⟨?pc, rfl⟩, onlyRegisters_of_withRegistersOf ?frame⟩
  case value => exact (getStk_withCyclesLeft _ _ _).trans (getStk_setStk_same p (stackTop s) _)
  case flags =>
    rintro rfl
    exact flagsAre_withCyclesLeft 3 (flagsAre_setStk_af (stackTop s) _)
  case others => simp [getStk_setStk_other hq]
  all_goals simp

end Sys2Proof
end

section
/-! 8-bit arithmetic and logic (42_alu8.md R200 to R228). The instructions on A are all `alu8`, INC and DEC are `modify8`: what each
of the two leaves is said once, for every operation. The rest is about the results and flags of `Machine/Flags`, in the words of the
claims: O31 to O36. -/

namespace Sys2Proof.Machine

/-! ## Results and flags (R200) -/

/-- ADD takes no incoming carry: the sum is the machine word's. -/
theorem aluOut_add (a v : Byte) (cf : Bool) : aluOut .add a v cf =
    ⟨a + v, a + v == 0, false, decide (0x0F < a.toNat % 16 + v.toNat % 16), decide (0xFF < a.toNat + v.toNat)⟩ := by
  have hr : BitVec.ofNat 8 (a.toNat + v.toNat) = a + v := by simp [BitVec.ofNat_add]
  simp only [aluOut, add8, Bool.toNat_false, Nat.add_zero, hr]
  rfl

/-- The difference is the machine word's, and it borrows when the naturals do. -/
theorem aluOut_sbc (a v : Byte) (cf : Bool) : aluOut .sbc a v cf =
    ⟨a - v - BitVec.ofNat 8 cf.toNat, a - v - BitVec.ofNat 8 cf.toNat == 0, true,
      decide (a.toNat % 16 < v.toNat % 16 + cf.toNat), decide (a.toNat < v.toNat + cf.toNat)⟩ := by
  have hr : BitVec.ofInt 8 ((a.toNat : Int) - v.toNat - cf.toNat) = a - v - BitVec.ofNat 8 cf.toNat := by
    simp [Int.sub_eq_add_neg, BitVec.ofInt_add, BitVec.ofInt_neg, BitVec.sub_eq_add_neg]
  have borrow (x y c : Nat) : (x : Int) - y - c < 0 ↔ x < y + c := by omega
  simp only [aluOut, sub8, hr, borrow]
  rfl

/-- SUB is SBC without an incoming borrow; its result is 0 exactly when the operands agree. -/
theorem aluOut_sub (a v : Byte) (cf : Bool) : aluOut .sub a v cf =
    ⟨a - v, a == v, true, decide (a.toNat % 16 < v.toNat % 16), decide (a.toNat < v.toNat)⟩ := by
  have hz : (a - v == 0) = (a == v) := Bool.eq_iff_iff.2 (by rw [beq_iff_eq, beq_iff_eq, sub_eq_zero])
  calc aluOut .sub a v cf = aluOut .sbc a v false := rfl
    _ = _ := by simp only [aluOut_sbc, Bool.toNat_false, BitVec.sub_zero, hz, add_zero]

theorem toNat_and_0f (v : Byte) : (v &&& 0x0F).toNat = v.toNat % 16 := Nat.and_two_pow_sub_one_eq_mod _ 4

/-- INC's result is 0 from 0xFF alone, and its half carry comes from a low nibble of 0xF (R225). -/
theorem inc8_eq (v : Byte) (cf : Bool) : inc8 v cf = ⟨v + 1, v == 0xFF, false, decide (v.toNat % 16 = 15), cf⟩ := by
  have hz : v + 1 = 0 ↔ v = 0xFF := (eq_neg_iff_add_eq_zero (b := (1 : Byte))).symm
  have hh : v &&& 0x0F = 0x0F ↔ v.toNat % 16 = 15 := by rw [← BitVec.toNat_inj, toNat_and_0f]; rfl
  simp only [inc8, hz, hh]
  rfl

/-- DEC's result is 0 from 1 alone, and its half borrow comes from a low nibble of 0 (R227). -/
theorem dec8_eq (v : Byte) (cf : Bool) : dec8 v cf = ⟨v - 1, v == 1, true, decide (v.toNat % 16 = 0), cf⟩ := by
  have hz : v - 1 = 0 ↔ v = 1 := sub_eq_zero
  have hh : v &&& 0x0F = 0x00 ↔ v.toNat % 16 = 0 := by rw [← BitVec.toNat_inj, toNat_and_0f]; rfl
  simp only [dec8, hz, hh]
  rfl

/-! ## Writing the flags -/

/-- The flags of a state are those of an operation's outcome. -/
def FlagsOf (o : AluOut) (t : State) : Prop := FlagsAre o.z o.n o.h o.c t

theorem flagsOf_setOut (o : AluOut) (s : State) : FlagsOf o (setOut o s) := flagsAre_setFlags o.z o.n o.h o.c s

@[simp] theorem getR8_setOut (r : R8) (o : AluOut) (s : State) : getR8 r (setOut o s) = getR8 r s := getR8_setFlags r _ _ _ _ s

@[simp] theorem setOut_withRegistersOf (o : AluOut) (t s : State) : (setOut o t).withRegistersOf s = t.withRegistersOf s := rfl

@[simp] theorem regHL_skip (n : Nat) (s : State) : regHL (skip n s) = regHL s := rfl

@[simp] theorem flagC_skip (n : Nat) (s : State) : flagC (skip n s) = flagC s := rfl

/-! ## `alu8` -/

@[simp] theorem setR8_a_same (v : Byte) (s : State) : (setR8 .a v s).a = v := rfl

/-- What `alu[y]` on A leaves with the outcome `o`: the result in A unless the operation discards it, and the flags. -/
structure AluLeaves (op : AluOp) (o : AluOut) (len cycles : Nat) (s t : State) : Prop where
  a : t.a = if aluWritesA op then o.r else s.a
  flags : FlagsOf o t
  frame : AluFrame len cycles s t

/-- The operand and the carry are read before A is written. -/
theorem alu8_leaves (op : AluOp) (src : Operand8) (len cycles : Nat) (s : State) :
    ∃ t, alu8 op src len cycles s = .next t ∧ AluLeaves op (aluOut op s.a (operandValue src s) (flagC s)) len cycles s t := by
  refine ⟨_, done_eq _ _, ?a, flagsAre_withCyclesLeft _ ?flags, fun r hr => ?others, ?sp, ⟨?pc, rfl⟩,
    onlyRegisters_of_withRegistersOf ?frame⟩
  case flags =>
    rw [operandValue_skip]
    exact flagsOf_setOut _ _
  case others =>
    have ha : R8.a ≠ r := by simpa [eq_comm] using hr
    split <;> simp [getR8_setR8_other _ _ ha]
  all_goals split <;> simp

theorem aluEncodings (op : AluOp) : AluEncodings op := by
  refine ⟨fun r => ?register, ?indirect, fun n => ?immediate⟩
  case register => cases op <;> cases r <;> rfl
  all_goals cases op <;> rfl

/-- A claim about the three forms of an operation follows from what `alu8` leaves with the outcome `out`. -/
theorem aluForms_of_leaves {op : AluOp} {out : Byte → Byte → Bool → AluOut}
    {Q : State → (State → Byte) → Nat → Nat → State → Prop} (hout : ∀ a v cf, aluOut op a v cf = out a v cf)
    (h : ∀ s v len cyc t, AluLeaves op (out s.a (v s) (flagC s)) len cyc s t → Q s v len cyc t) :
    AluForms op fun i v len cyc => ∀ s, ∃ t, exec i s = .next t ∧ Q s v len cyc t := by
  have form {i : Instr} (src : Operand8) (len cyc : Nat) (hexec : ∀ s, exec i s = alu8 op src len cyc s) (s : State) :
      ∃ t, exec i s = .next t ∧ Q s (operandValue src) len cyc t := by
    obtain ⟨t, hrun, hleaves⟩ := alu8_leaves op src len cyc s
    exact ⟨t, (hexec s).trans hrun, h _ _ _ _ _ (hout _ _ _ ▸ hleaves)⟩
  exact ⟨fun r => form (.reg r) 1 1 (exec_aluReg op r), form (.ind .hl) 1 2 (exec_aluInd op),
    fun n => form (.imm n) 2 2 (exec_aluImm op n)⟩

/-! ## `modify8` -/

section ReadModifyWrite

variable {op : Byte → Bool → AluOut} {o : AluOut} {s : State}

/-- A read-modify-write of a register with the outcome `o`: the result in it, the flags in F, nothing else. -/
theorem modify8_reg {r : R8} (len cycles : Nat) (hout : op (getR8 r s) (flagC s) = o) :
    ∃ t, modify8 op (.reg r) len cycles s = .next t ∧ getR8 r t = o.r ∧ FlagsOf o t ∧
      SameRegisters [r] s t ∧ t.sp = s.sp ∧ Ends len cycles s t ∧ OnlyRegisters s t := by
  have hskip : op (operandValue (.reg r) (skip len s)) (flagC (skip len s)) = o := by rwa [operandValue_skip]
  refine ⟨_, done_eq _ _, ?value, flagsAre_withCyclesLeft _ ?flags, fun r' hr => ?others, ?sp, ⟨?pc, rfl⟩,
    onlyRegisters_of_withRegistersOf ?frame⟩
  all_goals simp only [hskip, operandWrite]
  case flags => exact flagsOf_setOut _ _
  case others =>
    have hne : r ≠ r' := by simpa [eq_comm] using hr
    simp [getR8_setR8_other _ _ hne]
  all_goals simp

/-- A read-modify-write of the byte at HL with the outcome `o`: the result is stored through the bus, the flags go to F. -/
theorem modify8_hl (len cycles : Nat) (hout : op (busRead (regHL s) s) (flagC s) = o) :
    ∃ t, modify8 op (.ind .hl) len cycles s = .next t ∧ Stored (regHL s) o.r s t ∧ FlagsOf o t ∧
      SameRegisters [] s t ∧ t.sp = s.sp ∧ Ends len cycles s t := by
  have hskip : op (operandValue (.ind .hl) (skip len s)) (flagC (skip len s)) = o := by rwa [operandValue_skip]
  refine ⟨_, done_eq _ _, stored_of_withRegistersOf ?stores, flagsAre_withCyclesLeft _ ?flags, fun r _ => ?registers, ?sp,
    ⟨?pc, rfl⟩⟩
  all_goals simp only [hskip, operandWrite]
  case flags => exact flagsOf_setOut _ _
  all_goals simp [getPair]

end ReadModifyWrite

theorem exec_inc_iHL (s : State) : exec .inc_iHL s = modify8 inc8 (.ind .hl) 1 3 s := rfl

theorem exec_dec_iHL (s : State) : exec .dec_iHL s = modify8 dec8 (.ind .hl) 1 3 s := rfl

end Sys2Proof.Machine

/-! ## The claims -/

namespace Sys2Proof

open Machine

/-- Settles O31: ADC's outcome is `Add8` as it stands (R200), ADD's is the machine word's sum. -/
theorem addAndAdc : Obligations.AddAndAdc := by
  refine ⟨aluEncodings .add, aluEncodings .adc, ?add, ?adc⟩
  case add => exact aluForms_of_leaves aluOut_add fun _ _ _ _ _ h => ⟨h.a, h.flags, h.frame⟩
  case adc =>
    refine aluForms_of_leaves (fun _ _ _ => rfl) fun _ _ _ _ _ h => ?_
    rintro _ rfl
    exact ⟨h.a, h.a ▸ h.flags, h.frame⟩

/-- Settles O32: the borrows of `Sub8` are comparisons of naturals (`aluOut_sbc`), for SUB without an incoming one. -/
theorem subAndSbc : Obligations.SubAndSbc := by
  refine ⟨aluEncodings .sub, aluEncodings .sbc, ?sub, ?sbc⟩
  case sub => exact aluForms_of_leaves aluOut_sub fun _ _ _ _ _ h => ⟨h.a, h.flags, h.frame⟩
  case sbc =>
    refine aluForms_of_leaves aluOut_sbc fun _ _ _ _ _ h => ?_
    rintro _ rfl
    exact ⟨h.a, h.a ▸ h.flags, h.frame⟩

/-- Settles O33: the result in A is the machine word's, and Z is read off it. -/
theorem andXorOr : Obligations.AndXorOr := by
  refine ⟨aluEncodings .and, aluEncodings .xor, aluEncodings .or, ?and, ?xor, ?or⟩
  all_goals refine aluForms_of_leaves (fun _ _ _ => rfl) fun _ _ _ _ _ h => ⟨fun k => h.a ▸ ?_, h.a ▸ h.flags, h.frame⟩
  case and => exact BitVec.getLsbD_and
  case xor => exact BitVec.getLsbD_xor
  case or => exact BitVec.getLsbD_or

/-- Settles O34: CP has SUB's outcome and discards the result. -/
theorem compare : Obligations.Compare :=
  ⟨aluEncodings .cp, aluForms_of_leaves (op := .cp) aluOut_sub fun _ _ _ _ _ h => ⟨h.flags, h.a, h.frame⟩⟩

/-- Settles O35: both are `modify8` on the register, with the outcomes `inc8_eq` and `dec8_eq`. -/
theorem incDecRegister : Obligations.IncDecRegister := by
  refine ⟨fun r => ⟨?encodingInc, fun s => ?inc⟩, fun r => ⟨?encodingDec, fun s => ?dec⟩⟩
  case inc => exact exec_incReg r s ▸ modify8_reg 1 1 (inc8_eq _ _)
  case dec => exact exec_decReg r s ▸ modify8_reg 1 1 (dec8_eq _ _)
  all_goals cases r <;> rfl

/-- Settles O36: both are `modify8` on the byte at HL, with the outcomes of INC r and DEC r for the value read. -/
theorem incDecMemory : Obligations.IncDecMemory := by
  refine ⟨rfl, rfl, ?inc, ?dec⟩
  case inc =>
    rintro s _ rfl
    have h := modify8_hl 1 3 (inc8_eq (busRead (regHL s) s) (flagC s))
    exact exec_inc_iHL s ▸ h
  case dec =>
    rintro s _ rfl
    have h := modify8_hl 1 3 (dec8_eq (busRead (regHL s) s) (flagC s))
    exact exec_dec_iHL s ▸ h

end Sys2Proof
end

section
/-! 16-bit arithmetic (43_alu16.md R241 to R243). INC rr and DEC rr are both one write of a pair, and what that leaves is said once;
ADD HL,rr is a write of HL and of the flags: O37. -/

namespace Sys2Proof.Machine

/-- An instruction that writes one pair leaves the other pairs, A, F and the memory. -/
theorem done_setPair_leaves (p : R16) (v : Word) (len cycles : Nat) (s : State) :
    ∃ t, done cycles (setPair p v (skip len s)) = .next t ∧ getPair p t = v ∧ (∀ q, q ≠ p → getPair q t = getPair q s) ∧
      t.a = s.a ∧ t.f = s.f ∧ Ends len cycles s t ∧ OnlyRegisters s t := by
  refine ⟨_, done_eq _ _, ?value, fun q hq => ?others, ?a, ?f, ⟨?pc, rfl⟩, onlyRegisters_of_withRegistersOf ?frame⟩
  case others => simp [getPair_setPair_other hq]
  all_goals simp

/-- ADD HL,rr reads both words before it writes HL, and puts Z back as it was. -/
theorem addHlPair_leaves (p : R16) (s : State) :
    ∃ t, addHlPair p s = .next t ∧ regHL t = regHL s + getPair p s ∧
      FlagsAre (flagZ s) false (decide (0x0FFF < (regHL s).toNat % 4096 + (getPair p s).toNat % 4096))
        (decide (0xFFFF < (regHL s).toNat + (getPair p s).toNat)) t ∧
      SameRegisters [.h, .l] s t ∧ t.sp = s.sp ∧ Ends 1 2 s t ∧ OnlyRegisters s t := by
  refine ⟨_, done_eq _ _, regHL_setHL _ (skip 1 s), flagsAre_withCyclesLeft _ (flagsAre_setFlags _ _ _ _ _),
    fun r hr => ?others, rfl, ⟨rfl, rfl⟩, onlyRegisters_of_withRegistersOf rfl⟩
  rw [getR8_withCyclesLeft, getR8_setFlags, getR8_setHL_other hr, getR8_skip]

end Sys2Proof.Machine

/-! ## The claim -/

namespace Sys2Proof

open Machine

/-- Settles O37: INC rr and DEC rr are one pair written (`done_setPair_leaves`), ADD HL,rr is `addHlPair_leaves`. -/
theorem sixteenBitArithmetic : Obligations.SixteenBitArithmetic := by
  refine ⟨fun p => ⟨?encodingAdd, fun s => ?add⟩, fun p => ⟨?encodingInc, fun s => ?inc⟩, fun p => ⟨?encodingDec, fun s => ?dec⟩⟩
  case add => exact exec_addHl p s ▸ addHlPair_leaves p s
  case inc => exact exec_incPair p s ▸ done_setPair_leaves p (getPair p s + 1) 1 2 s
  case dec => exact exec_decPair p s ▸ done_setPair_leaves p (getPair p s - 1) 1 2 s
  all_goals cases p <;> rfl

end Sys2Proof
end

section
/-! Accumulator rotates, DAA, CPL, SCF, CCF (44_acc_misc.md R250 to R258). Each writes an outcome to A and F, and what that leaves is
said once. Three facts about results stand beside it: the rotates are the spec's table on naturals, DAA's correction is the claims'
sum, and after ADD or SUB of decimal digits the correction restores them: O38 to O41. -/

namespace Sys2Proof.Machine

/-! ## Writing A and F -/

/-- An instruction of one byte and one M-cycle with the outcome `o`: the result in A, the flags in F, nothing else. -/
theorem done_setOut_setA_leaves (o : AluOut) (s : State) :
    ∃ t, done 1 (setOut o (setR8 .a o.r (skip 1 s))) = .next t ∧ t.a = o.r ∧ FlagsOf o t ∧ AluFrame 1 1 s t := by
  refine ⟨_, done_eq _ _, rfl, flagsAre_withCyclesLeft _ (flagsOf_setOut o _), fun r hr => ?others, rfl, ⟨rfl, rfl⟩,
    onlyRegisters_of_withRegistersOf rfl⟩
  have ha : R8.a ≠ r := by simpa [eq_comm] using hr
  simp [getR8_setR8_other _ _ ha]

/-! ## The rotates and shifts (45_cb.md R270) -/

/-- A byte of low bits joined to a multiple of the next power of two is their sum. -/
theorem toNat_or_eq_add {x y : Byte} (i q : Nat) (hx : x.toNat = 2 ^ i * q) (hy : y.toNat < 2 ^ i) :
    (x ||| y).toNat = x.toNat + y.toNat := by
  rw [BitVec.toNat_or, hx, Nat.two_pow_add_eq_or_of_lt hy]

theorem toNat_shiftLeft_one (v : Byte) : (v <<< 1).toNat = 2 * v.toNat % 256 := by
  rw [BitVec.toNat_shiftLeft, Nat.shiftLeft_eq, Nat.mul_comm]

theorem toNat_ushiftRight_one (v : Byte) : (v >>> 1).toNat = v.toNat / 2 := by
  rw [BitVec.toNat_ushiftRight, Nat.shiftRight_eq_div_pow]

theorem getLsbD_zero_eq (v : Byte) : v.getLsbD 0 = (v.toNat % 2 == 1) := by
  rw [BitVec.getLsbD, Nat.testBit_eq_decide_div_mod_eq, pow_zero, Nat.div_one]
  rfl

theorem getLsbD_seven_eq (v : Byte) : v.getLsbD 7 = (v.toNat / 128 == 1) := by
  rw [BitVec.getLsbD, Nat.testBit_eq_decide_div_mod_eq, Nat.mod_eq_of_lt (by omega)]
  rfl

/-- A bit that comes in on the right. -/
theorem toNat_shiftLeft_or (v : Byte) (b : Bool) : ((v <<< 1) ||| BitVec.ofNat 8 b.toNat).toNat = 2 * v.toNat % 256 + b.toNat := by
  have hb : (BitVec.ofNat 8 b.toNat).toNat = b.toNat := by cases b <;> rfl
  rw [toNat_or_eq_add 1 (v.toNat % 128), toNat_shiftLeft_one, hb]
  · rw [toNat_shiftLeft_one]
    omega
  · rw [hb]
    exact b.toNat_lt

/-- A bit that comes in on the left. -/
theorem toNat_ushiftRight_or (v : Byte) (b : Bool) :
    ((v >>> 1) ||| BitVec.ofNat 8 (128 * b.toNat)).toNat = v.toNat / 2 + 128 * b.toNat := by
  have hb : (BitVec.ofNat 8 (128 * b.toNat)).toNat = 128 * b.toNat := by cases b <;> rfl
  rw [BitVec.or_comm, toNat_or_eq_add 7 b.toNat hb, toNat_ushiftRight_one, hb, Nat.add_comm]
  rw [toNat_ushiftRight_one]
  omega

/-- `ShiftOp`'s result is the table's on naturals: what comes in joins at bits that the shift left 0. -/
theorem toNat_shiftOp (op : RotOp) (v : Byte) (cin : Bool) :
    (shiftOp op v cin).1.toNat = (shiftTable op v.toNat cin.toNat).1 := by
  have h7 : (v.getLsbD 7).toNat = v.toNat / 128 := by
    rw [BitVec.getLsbD, Nat.toNat_testBit, Nat.mod_eq_of_lt (by omega)]
  have h0 : (v.getLsbD 0).toNat = v.toNat % 2 := by
    rw [BitVec.getLsbD, Nat.toNat_testBit, pow_zero, Nat.div_one]
  cases op
  case rlc => exact (toNat_shiftLeft_or v _).trans (by rw [h7]; rfl)
  case rrc => exact (toNat_ushiftRight_or v _).trans (by rw [h0]; rfl)
  case rl => exact toNat_shiftLeft_or v cin
  case rr => exact toNat_ushiftRight_or v cin
  case sla => exact toNat_shiftLeft_one v
  case sra =>
    have htop : v &&& 0x80 = BitVec.ofNat 8 (128 * (v.getLsbD 7).toNat) := by
      rw [show (0x80 : Byte) = BitVec.twoPow 8 7 from rfl, BitVec.and_twoPow]
      cases v.getLsbD 7 <;> rfl
    rw [shiftOp, htop]
    exact (toNat_ushiftRight_or v _).trans (by rw [h7]; rfl)
  case swap =>
    have hlo : (v >>> 4).toNat = v.toNat / 16 := by rw [BitVec.toNat_ushiftRight, Nat.shiftRight_eq_div_pow]
    have hhi : (v <<< 4).toNat = 16 * v.toNat % 256 := by rw [BitVec.toNat_shiftLeft, Nat.shiftLeft_eq, Nat.mul_comm]
    have hsum := toNat_or_eq_add (x := v <<< 4) (y := v >>> 4) 4 (v.toNat % 16) (by omega) (by omega)
    exact hsum.trans (by rw [hlo, hhi]; rfl)
  case srl => exact toNat_ushiftRight_one v

/-- The bit shifted out is the table's. -/
theorem shiftOp_carry (op : RotOp) (v : Byte) (cin : Bool) : (shiftOp op v cin).2 = (shiftTable op v.toNat cin.toNat).2 := by
  cases op
  case swap => rfl
  case rlc | rl | sla => exact getLsbD_seven_eq v
  all_goals exact getLsbD_zero_eq v

theorem rotateA_leaves (op : RotOp) (s : State) :
    ∃ t, rotateA op s = .next t ∧ t.a.toNat = (shiftTable op s.a.toNat (flagC s).toNat).1 ∧
      FlagsAre false false false (shiftTable op s.a.toNat (flagC s).toNat).2 t ∧ AluFrame 1 1 s t := by
  obtain ⟨t, hrun, ha, hf, hframe⟩ :=
    done_setOut_setA_leaves ⟨(shiftOp op s.a (flagC s)).1, false, false, false, (shiftOp op s.a (flagC s)).2⟩ s
  exact ⟨t, hrun, ha ▸ toNat_shiftOp op s.a (flagC s), shiftOp_carry op s.a (flagC s) ▸ hf, hframe⟩

/-! ## DAA (R255) -/

/-- The correction is the sum of its two parts. -/
theorem daaOut_eq (a : Byte) (n h c low high : Bool) (hlow : low = (h || (!n && decide (9 < a.toNat % 16))))
    (hhigh : high = (c || (!n && decide (0x99 < a.toNat)))) :
    let corr := BitVec.ofNat 8 (6 * low.toNat + 0x60 * high.toNat)
    let r := if n then a - corr else a + corr
    daaOut a n h c = ⟨r, r == 0, n, false, high⟩ := by
  have hparts : (if low then 0x06 else 0x00) ||| (if high then 0x60 else 0x00) =
      BitVec.ofNat 8 (6 * low.toNat + 0x60 * high.toNat) := by
    cases low <;> cases high <;> rfl
  simp only [daaOut, daaCorrection, ← hlow, ← hhigh, hparts]
  rfl

theorem decimalAdjust_leaves (s : State) :
    ∃ t, exec .daa s = .next t ∧ t.a = (daaOut s.a (flagN s) (flagH s) (flagC s)).r ∧
      FlagsOf (daaOut s.a (flagN s) (flagH s) (flagC s)) t ∧ AluFrame 1 1 s t :=
  done_setOut_setA_leaves _ s

/-- DAA's outcome after an operation on A with the outcome `o`. -/
def daaAfter (o : AluOut) : AluOut := daaOut o.r o.n o.h o.c

theorem aluReg_then_daa {op : AluOp} (hop : aluWritesA op = true) (r : R8) (s : State) :
    ∃ t u, exec (Fam.aluReg op r) s = .next t ∧ exec .daa t = .next u ∧
      u.a = (daaAfter (aluOut op s.a (getR8 r s) (flagC s))).r ∧
      flagC u = (daaAfter (aluOut op s.a (getR8 r s) (flagC s))).c := by
  obtain ⟨t, hrun, hleaves⟩ := alu8_leaves op (.reg r) 1 1 s
  obtain ⟨u, hdaa, ha, ⟨-, -, -, hc, -⟩, -⟩ := decimalAdjust_leaves t
  obtain ⟨-, hn, hh, htc, -⟩ := hleaves.flags
  have hta := hleaves.a
  rw [if_pos hop] at hta
  have hout : daaOut t.a (flagN t) (flagH t) (flagC t) = daaAfter (aluOut op s.a (getR8 r s) (flagC s)) := by
    simp only [flagN, flagH, flagC, hta, hn, hh, htc]
    rfl
  exact ⟨t, u, (exec_aluReg op r s).trans hrun, hdaa, hout ▸ ha, hout ▸ hc⟩

theorem toNat_bcd {n : Nat} (hn : n < 100) : (bcd n).toNat = 16 * (n / 10) + n % 10 := by
  simp only [bcd, BitVec.toNat_ofNat]
  omega

section DecimalDigits

variable {x y : Nat} (hx : x < 100) (hy : y < 100) (cf : Bool)

include hx hy

/-- 6 is added where the low digits reach 10, 0x60 where the numbers reach 100. -/
theorem daaAfter_add_bcd : daaAfter (aluOut .add (bcd x) (bcd y) cf) =
    ⟨bcd ((x + y) % 100), bcd ((x + y) % 100) == 0, false, false, decide (100 ≤ x + y)⟩ := by
  have hbx := toNat_bcd hx
  have hby := toNat_bcd hy
  have hbs := toNat_bcd (Nat.mod_lt (x + y) (by decide : 0 < 100))
  have hlow : decide (10 ≤ x % 10 + y % 10) =
      (decide (0x0F < (bcd x).toNat % 16 + (bcd y).toNat % 16) || (!false && decide (9 < (bcd x + bcd y).toNat % 16))) := by
    simp only [BitVec.toNat_add, hbx, hby, Bool.not_false, Bool.true_and, ← Bool.decide_or, decide_eq_decide]
    omega
  have hhigh : decide (100 ≤ x + y) =
      (decide (0xFF < (bcd x).toNat + (bcd y).toNat) || (!false && decide (0x99 < (bcd x + bcd y).toNat))) := by
    simp only [BitVec.toNat_add, hbx, hby, Bool.not_false, Bool.true_and, ← Bool.decide_or, decide_eq_decide]
    omega
  have hsum : bcd x + bcd y + BitVec.ofNat 8 (6 * (decide (10 ≤ x % 10 + y % 10)).toNat + 0x60 * (decide (100 ≤ x + y)).toNat) =
      bcd ((x + y) % 100) := by
    rw [← BitVec.toNat_inj]
    simp only [BitVec.toNat_add, BitVec.toNat_ofNat, hbx, hby, hbs, Bool.toNat, Bool.cond_decide]
    split <;> split <;> omega
  rw [aluOut_add, daaAfter, daaOut_eq _ _ _ _ _ _ hlow hhigh]
  simp only [Bool.false_eq_true, if_false, hsum]

/-- 6 is taken off where the low digits borrowed, 0x60 where the numbers did. -/
theorem daaAfter_sub_bcd : daaAfter (aluOut .sub (bcd x) (bcd y) cf) =
    ⟨bcd ((x + 100 - y) % 100), bcd ((x + 100 - y) % 100) == 0, true, false, decide (x < y)⟩ := by
  have hbx := toNat_bcd hx
  have hby := toNat_bcd hy
  have hbd := toNat_bcd (Nat.mod_lt (x + 100 - y) (by decide : 0 < 100))
  have hlow : decide (x % 10 < y % 10) =
      (decide ((bcd x).toNat % 16 < (bcd y).toNat % 16) || (!true && decide (9 < (bcd x - bcd y).toNat % 16))) := by
    simp only [hbx, hby, Bool.not_true, Bool.false_and, Bool.or_false, decide_eq_decide]
    omega
  have hhigh : decide (x < y) = (decide ((bcd x).toNat < (bcd y).toNat) || (!true && decide (0x99 < (bcd x - bcd y).toNat))) := by
    simp only [hbx, hby, Bool.not_true, Bool.false_and, Bool.or_false, decide_eq_decide]
    omega
  have hdifference : bcd x - bcd y - BitVec.ofNat 8 (6 * (decide (x % 10 < y % 10)).toNat + 0x60 * (decide (x < y)).toNat) =
      bcd ((x + 100 - y) % 100) := by
    rw [← BitVec.toNat_inj]
    simp only [BitVec.toNat_sub, BitVec.toNat_ofNat, hbx, hby, hbd, Bool.toNat, Bool.cond_decide]
    split <;> split <;> omega
  rw [aluOut_sub, daaAfter, daaOut_eq _ _ _ _ _ _ hlow hhigh]
  simp only [if_true, hdifference]

end DecimalDigits

end Sys2Proof.Machine

/-! ## The claims -/

namespace Sys2Proof

open Machine

/-- Settles O38: each is `rotateA` of its operation, and its outcome is the table's. -/
theorem accumulatorRotates : Obligations.AccumulatorRotates := by
  intro r hr
  fin_cases hr
  · exact ⟨rfl, rotateA_leaves .rlc⟩
  · exact ⟨rfl, rotateA_leaves .rl⟩
  · exact ⟨rfl, rotateA_leaves .rrc⟩
  · exact ⟨rfl, rotateA_leaves .rr⟩

/-- Settles O39: the outcome is `daaOut`, with the correction as a sum (`daaOut_eq`). -/
theorem decimalAdjust : Obligations.DecimalAdjust := by
  refine ⟨rfl, fun s => ?_⟩
  obtain ⟨t, hrun, ha, hf, hframe⟩ := decimalAdjust_leaves s
  refine ⟨t, hrun, ?_⟩
  rintro _ _ _ low high rfl rfl rfl hlow hhigh
  have hout := daaOut_eq s.a (flagN s) (flagH s) (flagC s) low high hlow hhigh
  rw [hout] at ha hf
  exact ⟨ha, ha ▸ hf, hframe⟩

/-- Settles O40: the outcome of ADD or SUB, decimally adjusted, is the digits' sum or difference. -/
theorem decimalAdjustCorrectsBcd : Obligations.DecimalAdjustCorrectsBcd := by
  intro x y hx hy s ha hb
  constructor
  · have h := aluReg_then_daa (op := .add) rfl .b s
    rwa [ha, show getR8 .b s = bcd y from hb, daaAfter_add_bcd hx hy] at h
  · have h := aluReg_then_daa (op := .sub) rfl .b s
    rwa [ha, show getR8 .b s = bcd y from hb, daaAfter_sub_bcd hx hy] at h

/-- Settles O41: CPL's result is the complement; SCF and CCF write A's own value. -/
theorem complementAndCarryFlag : Obligations.ComplementAndCarryFlag := by
  refine ⟨rfl, rfl, rfl, fun s => ?cpl, fun s => ?scf, fun s => ?ccf⟩
  case cpl =>
    obtain ⟨t, hrun, ha, hf, hframe⟩ := done_setOut_setA_leaves ⟨s.a ^^^ 0xFF, flagZ s, true, true, flagC s⟩ s
    refine ⟨t, hrun, ?_, hf, hframe⟩
    calc t.a.toNat = (~~~s.a).toNat := by rw [ha, ← BitVec.xor_allOnes]; rfl
      _ = 255 - s.a.toNat := BitVec.toNat_not
  case scf => exact done_setOut_setA_leaves ⟨s.a, flagZ s, false, false, true⟩ s
  case ccf => exact done_setOut_setA_leaves ⟨s.a, flagZ s, false, false, !flagC s⟩ s

end Sys2Proof
end

section
/-! The CB table (45_cb.md R270 to R292). The rotates and shifts are `modify8` with the spec's table on naturals, BIT is `testBit8`,
RES and SET are `change8`: what the last two leave is said once for every operand, and the changed byte is described bit by bit:
O42 to O46. -/

namespace Sys2Proof.Machine

/-! ## The outcome of a rotate or shift (R270) -/

/-- N and H are 0, and the bit shifted out is the table's. -/
theorem shiftOut_eq (op : RotOp) (v : Byte) (cin : Bool) : shiftOut op v cin =
    ⟨(shiftOp op v cin).1, (shiftOp op v cin).1 == 0, false, false, (shiftTable op v.toNat cin.toNat).2⟩ := by
  rw [← shiftOp_carry]
  rfl

/-- The result is the table's, as a byte. -/
theorem shiftOp_result_eq (op : RotOp) (v : Byte) (cin : Bool) :
    (shiftOp op v cin).1 = BitVec.ofNat 8 (shiftTable op v.toNat cin.toNat).1 := by
  rw [← toNat_shiftOp, BitVec.ofNat_toNat, BitVec.setWidth_eq]

/-! ## `testBit8` (R287, R288) -/

/-- BIT writes F alone, whatever its operand. -/
theorem testBit8_leaves (b : Nat) (src : Operand8) (cycles : Nat) (s : State) :
    ∃ t, testBit8 b src cycles s = .next t ∧ FlagsAre (!(operandValue src s).getLsbD b) false true (flagC s) t ∧
      SameRegisters [] s t ∧ t.sp = s.sp ∧ Ends 2 cycles s t ∧ OnlyRegisters s t := by
  refine ⟨_, done_eq _ _, flagsAre_withCyclesLeft _ ?flags, fun r _ => ?registers, rfl, ⟨rfl, rfl⟩,
    onlyRegisters_of_withRegistersOf rfl⟩
  case flags =>
    rw [operandValue_skip]
    exact flagsAre_setFlags _ _ _ _ _
  case registers => simp

/-! ## `change8` (R289 to R292) -/

/-- The changed value goes back to the register, and nothing else is written. -/
theorem change8_reg (g : Byte → Byte) (r : R8) (cycles : Nat) (s : State) :
    ∃ t, change8 g (.reg r) cycles s = .next t ∧ getR8 r t = g (getR8 r s) ∧
      SameRegisters [r] s t ∧ t.f = s.f ∧ t.sp = s.sp ∧ Ends 2 cycles s t ∧ OnlyRegisters s t := by
  refine ⟨_, done_eq _ _, ?value, fun r' hr => ?others, ?f, ?sp, ⟨?pc, rfl⟩, onlyRegisters_of_withRegistersOf ?frame⟩
  case others =>
    have hne : r ≠ r' := by simpa [eq_comm] using hr
    simp [operandWrite, getR8_setR8_other _ _ hne]
  all_goals simp [operandWrite, operandValue]

/-- The changed byte is stored at HL through the bus, also when it is the byte that was read. -/
theorem change8_hl (g : Byte → Byte) (cycles : Nat) (s : State) :
    ∃ t, change8 g (.ind .hl) cycles s = .next t ∧ Stored (regHL s) (g (busRead (regHL s) s)) s t ∧
      SameRegisters [] s t ∧ t.f = s.f ∧ t.sp = s.sp ∧ Ends 2 cycles s t := by
  refine ⟨_, done_eq _ _, stored_of_withRegistersOf ?stores, fun r _ => ?registers, ?f, ?sp, ⟨?pc, rfl⟩⟩
  case stores =>
    rw [operandValue_skip]
    simp [operandWrite, operandValue, getPair]
  all_goals simp [operandWrite]

/-! ## One bit cleared or set -/

/-- The mask `1 << b`. -/
theorem getLsbD_one_shiftLeft (b k : Nat) : ((1 : Byte) <<< b).getLsbD k = (decide (b < 8) && decide (b = k)) :=
  BitVec.getLsbD_twoPow b k

theorem getLsbD_resBit (b : Nat) (v : Byte) (k : Nat) :
    (resBit b v).getLsbD k = if k = b then false else v.getLsbD k := by
  rw [resBit, BitVec.getLsbD_and, BitVec.getLsbD_not, getLsbD_one_shiftLeft]
  split
  · next hk => simp [hk]
  · next hk =>
    have hne : b ≠ k := Ne.symm hk
    have hin (h : v.getLsbD k = true) : k < 8 := BitVec.lt_of_getLsbD h
    simpa [hne] using hin

/-- The bit has to be one of the byte's eight. -/
theorem getLsbD_setBit {b : Nat} (hb : b < 8) (v : Byte) (k : Nat) :
    (setBit b v).getLsbD k = if k = b then true else v.getLsbD k := by
  rw [setBit, BitVec.getLsbD_or, getLsbD_one_shiftLeft]
  split
  · next hk => simp [hk, hb]
  · next hk => simp [Ne.symm hk]

theorem octNat_lt (b : Oct) : octNat b < 8 := by cases b <;> decide

end Sys2Proof.Machine

/-! ## The claims -/

namespace Sys2Proof

open Machine

/-- Settles O42: `modify8` on the register, with the table's outcome (`shiftOut_eq`). -/
theorem cbShiftRegister : Obligations.CbShiftRegister := by
  refine fun op r => ⟨by cases op <;> cases r <;> rfl, fun s => ?_⟩
  obtain ⟨t, hrun, hvalue, hflags, hframe⟩ := modify8_reg 2 2 (shiftOut_eq op (getR8 r s) (flagC s))
  exact ⟨t, (exec_rotReg op r s).trans hrun, hvalue ▸ toNat_shiftOp op (getR8 r s) (flagC s), hvalue ▸ hflags, hframe⟩

/-- Settles O43: `modify8` on the byte at HL, with the table's outcome (`shiftOut_eq`, `shiftOp_result_eq`). -/
theorem cbShiftMemory : Obligations.CbShiftMemory := by
  refine fun op => ⟨by cases op <;> rfl, fun s => ?_⟩
  have hout := shiftOut_eq op (busRead (regHL s) s) (flagC s)
  rw [shiftOp_result_eq] at hout
  obtain ⟨t, hrun, hleaves⟩ := modify8_hl 2 4 hout
  refine ⟨t, (exec_rotInd op s).trans hrun, ?_⟩
  rintro _ rfl
  exact hleaves

/-- Settles O44: both forms are `testBit8`, on the register and on the byte at HL. -/
theorem bitTest : Obligations.BitTest := by
  refine ⟨fun b r => ⟨?encodingReg, fun s => ?register⟩, fun b => ⟨?encodingInd, fun s => ?memory⟩⟩
  case register => exact exec_bitReg b r s ▸ testBit8_leaves (octNat b) (.reg r) 2 s
  case memory => exact exec_bitInd b s ▸ testBit8_leaves (octNat b) (.ind .hl) 3 s
  case encodingReg => cases b <;> cases r <;> rfl
  case encodingInd => cases b <;> rfl

/-- Settles O45: both are `change8` on the register; the changed value is known bit by bit. -/
theorem resSetRegister : Obligations.ResSetRegister := by
  refine ⟨fun b r => ⟨?encodingRes, fun s => ?res⟩, fun b r => ⟨?encodingSet, fun s => ?set⟩⟩
  case res =>
    obtain ⟨t, hrun, hvalue, hframe⟩ := change8_reg (resBit (octNat b)) r 2 s
    exact ⟨t, (exec_resReg b r s).trans hrun, hvalue ▸ getLsbD_resBit (octNat b) (getR8 r s), hframe⟩
  case set =>
    obtain ⟨t, hrun, hvalue, hframe⟩ := change8_reg (setBit (octNat b)) r 2 s
    exact ⟨t, (exec_setReg b r s).trans hrun, hvalue ▸ getLsbD_setBit (octNat_lt b) (getR8 r s), hframe⟩
  all_goals cases b <;> cases r <;> rfl

/-- Settles O46: both are `change8` on the byte at HL; the stored byte is known bit by bit. -/
theorem resSetMemory : Obligations.ResSetMemory := by
  refine ⟨fun b => ⟨?encodingRes, fun s => ?res⟩, fun b => ⟨?encodingSet, fun s => ?set⟩⟩
  case res =>
    obtain ⟨t, hrun, hstored, hframe⟩ := change8_hl (resBit (octNat b)) 4 s
    exact ⟨t, _, (exec_resInd b s).trans hrun, hstored, getLsbD_resBit (octNat b) _, hframe⟩
  case set =>
    obtain ⟨t, hrun, hstored, hframe⟩ := change8_hl (setBit (octNat b)) 4 s
    exact ⟨t, _, (exec_setInd b s).trans hrun, hstored, getLsbD_setBit (octNat_lt b) _, hframe⟩
  all_goals cases b <;> rfl

end Sys2Proof
end

section
/-! Control transfer (46_control.md R300 to R312). A jump is PC written, a call is a push and then PC written, a return is a pop into
PC: what each leaves is said once, and a conditional form is the choice between it and going on (R300 (3)). RETI undoes what taking an
interrupt did to PC and SP (60_exceptions.md R340, R343): O19, O47 to O51. -/

namespace Sys2Proof.Machine

/-! ## PC and the count of M-cycles written -/

/-- `t` with PC at `a`. -/
def State.withPc (a : Word) (t : State) : State := { t with pc := a }

section WithPc

variable (a x : Word) (r : R8) (s t : State)

@[simp] theorem withPc_pc : (t.withPc a).pc = a := rfl

@[simp] theorem withPc_sp : (t.withPc a).sp = t.sp := rfl

@[simp] theorem withPc_f : (t.withPc a).f = t.f := rfl

@[simp] theorem withPc_ime : (t.withPc a).ime = t.ime := rfl

@[simp] theorem getR8_withPc : getR8 r (t.withPc a) = getR8 r t := by cases r <;> rfl

@[simp] theorem withPc_withRegistersOf : (t.withPc a).withRegistersOf s = t.withRegistersOf s := rfl

@[simp] theorem busRead_withPc : busRead x (t.withPc a) = busRead x t := busRead_congr (by constructor <;> rfl) x

@[simp] theorem stackTop_withPc : stackTop (t.withPc a) = stackTop t := by simp [stackTop]

end WithPc

@[simp] theorem withCyclesLeft_ime (n : Nat) (t : State) : (t.withCyclesLeft n).ime = t.ime := rfl

@[simp] theorem withCyclesLeft_imeEnabling (n : Nat) (t : State) : (t.withCyclesLeft n).imeEnabling = t.imeEnabling := rfl

@[simp] theorem busRead_withCyclesLeft (n : Nat) (x : Word) (t : State) : busRead x (t.withCyclesLeft n) = busRead x t :=
  busRead_congr (by constructor <;> rfl) x

@[simp] theorem stackTop_withCyclesLeft (n : Nat) (t : State) : stackTop (t.withCyclesLeft n) = stackTop t := by
  simp [stackTop]

@[simp] theorem stackTop_skip (n : Nat) (t : State) : stackTop (skip n t) = stackTop t := by simp [stackTop]

/-! ## Jumps (R301 to R305) -/

theorem done_withPc_jumpsTo (a : Word) (len cycles : Nat) (s : State) :
    ∃ t, done cycles ((skip len s).withPc a) = .next t ∧ JumpsTo a cycles s t := by
  refine ⟨_, done_eq _ _, ?pc, rfl, fun r _ => ?registers, ?f, ?sp, onlyRegisters_of_withRegistersOf ?frame⟩
  all_goals simp

/-- Going on after the instruction is a jump to the next address. -/
theorem done_skip_jumpsTo (len cycles : Nat) (s : State) :
    ∃ t, done cycles (skip len s) = .next t ∧ JumpsTo (s.pc + BitVec.ofNat 16 len) cycles s t :=
  done_withPc_jumpsTo _ len cycles s

/-- The displacement is added to the address after the two bytes. -/
theorem relativeTarget_eq (pc : Word) (e : Byte) : pc + 2 + sext16 e = BitVec.ofInt 16 ((pc.toNat : Int) + 2 + e.toInt) := by
  rw [add_right_comm, add_sext16, add_right_comm (pc.toNat : Int), BitVec.ofInt_add _ 2]
  rfl

theorem jumpRel_jumpsTo (e : Byte) (cycles : Nat) (s : State) :
    ∃ t, jumpRel e cycles s = .next t ∧ JumpsTo (BitVec.ofInt 16 ((s.pc.toNat : Int) + 2 + e.toInt)) cycles s t :=
  relativeTarget_eq s.pc e ▸ done_withPc_jumpsTo _ 2 cycles s

/-! ## Conditions (R300 (2), (3)) -/

theorem condHolds_iff (k : Cond) (s : State) : condHolds k s = true ↔ CondMet k s := by
  cases k
  case z | c => rfl
  case nz | nc => exact Iff.of_eq (Bool.not_eq_true' _)

/-- A conditional transfer is the unconditional one when the condition holds, and else goes on after its whole length. -/
theorem conditional_leaves {taken : Result} {P : State → Prop} (k : Cond) (len cycles : Nat) (s : State)
    (h : ∃ t, taken = .next t ∧ P t) :
    ∃ t, (if condHolds k s then taken else done cycles (skip len s)) = .next t ∧
      (CondMet k s → P t) ∧ (¬ CondMet k s → JumpsTo (s.pc + BitVec.ofNat 16 len) cycles s t) := by
  by_cases hk : CondMet k s
  · obtain ⟨t, hrun, ht⟩ := h
    exact ⟨t, (if_pos ((condHolds_iff k s).2 hk)).trans hrun, fun _ => ht, fun hn => absurd hk hn⟩
  · obtain ⟨t, hrun, ht⟩ := done_skip_jumpsTo len cycles s
    exact ⟨t, (if_neg (hk ∘ (condHolds_iff k s).1)).trans hrun, fun h => absurd h hk, fun _ => ht⟩

/-! ## Calls (R306, R307, R312) -/

@[simp] theorem push16_ime (v : Word) (s : State) : (push16 v s).ime = s.ime := by simp [push16_eq]

/-- CALL and RST push the address after their `len` bytes, and leave IME alone. -/
theorem pushPc_callsTo (a : Word) (len cycles : Nat) (s : State) :
    ∃ t, done cycles ((push16 (s.pc + BitVec.ofNat 16 len) (skip len s)).withPc a) = .next t ∧
      CallsTo a (s.pc + BitVec.ofNat 16 len) cycles s t ∧ t.ime = s.ime := by
  refine ⟨_, done_eq _ _, ⟨?pc, rfl, fun r _ => ?registers, ?f, ?sp, storedTwo_of_withRegistersOf ?stores⟩, ?ime⟩
  all_goals simp

theorem call_callsTo (a : Word) (s : State) : ∃ t, call a s = .next t ∧ CallsTo a (s.pc + 3) 6 s t := by
  obtain ⟨t, hrun, hcall, -⟩ := pushPc_callsTo a 3 6 s
  exact ⟨t, hrun, hcall⟩

/-! ## Returns (R308, R309) -/

/-- The word at SP goes to PC, SP is 2 higher, and nothing else changes. -/
def ReturnsIn (cycles : Nat) (s t : State) : Prop :=
  t.pc = stackTop s ∧ t.sp = s.sp + 2 ∧ t.cyclesLeft = cycles ∧ SameRegisters [] s t ∧ t.f = s.f ∧ OnlyRegisters s t

@[simp] theorem getR8_popState (r : R8) (s : State) : getR8 r (popState s) = getR8 r s := by cases r <;> rfl

theorem ret_returnsIn (cycles : Nat) (s : State) : ∃ t, ret cycles s = .next t ∧ ReturnsIn cycles s t := by
  refine ⟨((popState (skip 1 s)).withPc (stackTop s)).withCyclesLeft cycles, rfl, ?pc, ?sp, rfl, fun r _ => ?registers, ?f,
    onlyRegisters_of_withRegistersOf ?frame⟩
  all_goals simp

/-! ## Taking an interrupt (60_exceptions.md R340, R343) -/

/-- The source and IME are acknowledged, before PC is pushed. -/
def State.acknowledge (i : IntSource) (s : State) : State :=
  { s with ifReg := s.ifReg &&& ~~~ requestBit i, ime := false, imeEnabling := false }

theorem takeInterrupt_eq (i : IntSource) (s : State) :
    takeInterrupt i s = (push16 s.pc (s.acknowledge i)).withPc (vectorOf i) := rfl

@[simp] theorem takeInterrupt_f (i : IntSource) (s : State) : (takeInterrupt i s).f = s.f := by
  rw [takeInterrupt_eq, withPc_f, push16_f]
  rfl

@[simp] theorem takeInterrupt_sp (i : IntSource) (s : State) : (takeInterrupt i s).sp = s.sp - 2 := by
  rw [takeInterrupt_eq, withPc_sp, push16_sp]
  rfl

@[simp] theorem getR8_takeInterrupt (i : IntSource) (r : R8) (s : State) : getR8 r (takeInterrupt i s) = getR8 r s := by
  rw [takeInterrupt_eq, getR8_withPc, getR8_push16]
  cases r <;> rfl

/-- Acknowledging the source changes no kind of storage, so the pushed PC is read back (`popValue_push16`). -/
theorem stackTop_takeInterrupt (i : IntSource) (s : State) (hhi : plainStorage s (s.sp - 1) = true)
    (hlo : plainStorage s (s.sp - 2) = true) : stackTop (takeInterrupt i s) = s.pc := by
  have hpop : stackTop (push16 s.pc (s.acknowledge i)) = s.pc := popValue_push16 s.pc (s.acknowledge i) hhi hlo
  rw [takeInterrupt_eq, stackTop_withPc, hpop]

/-- One of the five sources is the first of a non-empty pending set. -/
theorem highestPriority_isSome : ∀ p : Byte, p &&& 0x1F ≠ 0 → (highestPriority (p &&& 0x1F)).isSome = true := by decide

@[simp] theorem pending_wake (s : State) : pending (wake s) = pending s := by simp [pending]

@[simp] theorem getR8_wake (r : R8) (s : State) : getR8 r (wake s) = getR8 r s := by cases r <;> simp [getR8]

@[simp] theorem plainStorage_wake (s : State) (a : Word) : plainStorage (wake s) a = plainStorage s a := by simp [plainStorage]

theorem wake_halted_of_pending {s : State} (h : pending s ≠ 0) : (wake s).halted = false := by
  rw [wake, if_pos h]

/-- With IME set and a source pending the CPU step takes an interrupt, from HALT too. -/
theorem cpuStep_takesInterrupt {s : State} (hime : s.ime = true) (hpend : pending s ≠ 0) :
    ∃ i, cpuStep s = done Config.intDispatchMCycles (takeInterrupt i (wake s)) := by
  obtain ⟨i, hi⟩ := Option.isSome_iff_exists.1 (highestPriority_isSome _ hpend)
  have hdispatch : dispatching (wake s) = some i := by
    rw [dispatching, if_pos ⟨(wake_ime s).trans hime, wake_halted_of_pending hpend⟩, pending_wake]
    exact hi
  exact ⟨i, by simp only [cpuStep, hdispatch]⟩

/-! ## RETI (R310) -/

theorem exec_reti (s : State) : exec .reti s = .next ((returnFromInterrupt (skip 1 s)).withCyclesLeft 4) := rfl

@[simp] theorem returnFromInterrupt_pc (s : State) : (returnFromInterrupt s).pc = stackTop s := rfl

@[simp] theorem returnFromInterrupt_f (s : State) : (returnFromInterrupt s).f = s.f := rfl

@[simp] theorem returnFromInterrupt_ime (s : State) : (returnFromInterrupt s).ime = true := rfl

@[simp] theorem returnFromInterrupt_imeEnabling (s : State) : (returnFromInterrupt s).imeEnabling = false := rfl

@[simp] theorem busRead_returnFromInterrupt (x : Word) (s : State) : busRead x (returnFromInterrupt s) = busRead x s :=
  busRead_congr (by constructor <;> rfl) x

@[simp] theorem returnFromInterrupt_sp (s : State) : (returnFromInterrupt s).sp = s.sp + 2 := popState_sp s

@[simp] theorem getR8_returnFromInterrupt (r : R8) (s : State) : getR8 r (returnFromInterrupt s) = getR8 r s := by
  cases r <;> rfl

/-- But for PC, SP, the count and the interrupt enable the state is as before. -/
theorem returnFromInterrupt_frame (n cycles : Nat) (s : State) :
    { (returnFromInterrupt (skip n s)).withCyclesLeft cycles with
      pc := s.pc, sp := s.sp, cyclesLeft := s.cyclesLeft, ime := s.ime, imeEnabling := s.imeEnabling } = s := by
  cases s
  rfl

end Sys2Proof.Machine

/-! ## The claims -/

namespace Sys2Proof

open Machine

/-- Settles O19: RETI pops what the interrupt's entry pushed, in plain storage the interrupted PC (`stackTop_takeInterrupt`). -/
theorem retiReturnsFromInterrupt : Obligations.RetiReturnsFromInterrupt := by
  refine ⟨fun s => ?reti, fun s hime hpend hhi hlo => ?roundTrip⟩
  case reti =>
    refine ⟨_, exec_reti s, ?pc, ?sp, rfl, fun r _ => ?registers, ?f, ?ime, ?imeEnabling, ?frame, fun x => ?memory⟩
    case frame => exact returnFromInterrupt_frame 1 4 s
    all_goals simp
  case roundTrip =>
    obtain ⟨i, hrun⟩ := cpuStep_takesInterrupt hime hpend
    have htop : stackTop (takeInterrupt i (wake s)) = s.pc := by
      rw [stackTop_takeInterrupt, wake_pc]
      all_goals simpa
    refine ⟨_, _, hrun.trans (done_eq _ _), exec_reti _, ?resumedPc, ?oldSp, ?imeOn, fun r _ => ?sameRegisters, ?sameFlags⟩
    all_goals simp [htop]

/-- Settles O47: a jump writes PC alone (`done_withPc_jumpsTo`). -/
theorem jumps : Obligations.Jumps := by
  refine ⟨fun nn => ⟨rfl, done_withPc_jumpsTo nn 3 4⟩, ⟨rfl, fun s => done_withPc_jumpsTo (regHL s) 1 1 s⟩,
    fun k nn => ⟨by cases k <;> rfl, fun s => ?conditional⟩⟩
  exact exec_jpCond k nn s ▸ conditional_leaves k 3 3 s (done_withPc_jumpsTo nn 3 4 s)

/-- Settles O48: the target is the signed sum (`relativeTarget_eq`). -/
theorem relativeJumps : Obligations.RelativeJumps := by
  refine ⟨fun e => ⟨rfl, jumpRel_jumpsTo e 3⟩, fun k e => ⟨by cases k <;> rfl, fun s => ?conditional⟩⟩
  exact exec_jrCond k e s ▸ conditional_leaves k 2 2 s (jumpRel_jumpsTo e 3 s)

/-- Settles O49: the push is two bus writes, the high byte first (`pushPc_callsTo`). -/
theorem calls : Obligations.Calls := by
  refine ⟨fun nn => ⟨rfl, call_callsTo nn⟩, fun k nn => ⟨by cases k <;> rfl, fun s => ?conditional⟩⟩
  exact exec_callCond k nn s ▸ conditional_leaves k 3 3 s (call_callsTo nn s)

/-- Settles O50: the pop goes to PC, and nothing is stored (`ret_returnsIn`). -/
theorem returns : Obligations.Returns := by
  refine ⟨⟨rfl, ret_returnsIn 4⟩, fun k => ⟨by cases k <;> rfl, fun s => ?conditional⟩⟩
  exact exec_retCond k s ▸ conditional_leaves k 1 2 s (ret_returnsIn 5 s)

/-- Settles O51: RST is a call after one byte; the push does not look at IME (`pushPc_callsTo`). -/
theorem restarts : Obligations.Restarts :=
  fun y => ⟨by cases y <;> rfl, fun s => exec_rst y s ▸ pushPc_callsTo _ 1 4 s⟩

end Sys2Proof
end

section
/-! The PPU's time (62_ppu.md R421, R422, R426, R450). No instruction touches the PPU's progress or the ROM image, so a step's effect on
the PPU's clock is that of one PPU tick; each tick is one dot further, and drawing ends in time as its budget falls by one a dot: O12.
Counting the dots gives the line and the frame: O13. -/

namespace Sys2Proof.Machine

/-! ## What no CPU step changes -/

/-- The PPU but for what the bus writes of it (`Ppu.inputs`): its mode, its place in the frame, the fetcher and the FIFO. -/
def Ppu.progress (p : Ppu) : Ppu :=
  { p with
    vram := [], oam := [], lcdc := 0, statEnables := 0, scy := 0, scx := 0, lyc := 0, bgp := 0, obp0 := 0, obp1 := 0, wy := 0
    wx := 0 }

/-- What no instruction changes of the PPU and the cartridge: the PPU's progress and the ROM image. -/
def kept (p : Ppu) (k : Cart) : Ppu × Memory × Nat := (p.progress, k.rom, k.romLen)

section Operations

variable (a : Word) (v : Byte) (s : State)

@[simp] theorem kept_busWrite : kept (busWrite a v s).ppu (busWrite a v s).cart = kept s.ppu s.cart := by
  have hcart (n : Nat) : kept (cartWriteBus n v s).ppu (cartWriteBus n v s).cart = kept s.ppu s.cart := by
    obtain ⟨hrom, hlen, -⟩ := cartWrite_rom (Config.hostClockSeconds s.clockDraws) s.cart n v
    exact Prod.ext rfl (Prod.ext hrom hlen)
  unfold busWrite
  cases regionOf a
  case cartRom | cartRam => exact hcart _
  case vram | oam => dsimp only; split <;> rfl
  case io =>
    dsimp only
    cases ioRegAt (loByte a) with
    | none => rfl
    | some g => cases g <;> rfl
  all_goals rfl

@[simp] theorem kept_push16 (v : Word) : kept (push16 v s).ppu (push16 v s).cart = kept s.ppu s.cart := by simp [push16]

@[simp] theorem kept_takeInterrupt (i : IntSource) : kept (takeInterrupt i s).ppu (takeInterrupt i s).cart = kept s.ppu s.cart := by
  simp [takeInterrupt]

@[simp] theorem operandSideEffect_ppu (o : Operand8) : (operandSideEffect o s).ppu = s.ppu := by cases o <;> rfl

@[simp] theorem operandSideEffect_cart (o : Operand8) : (operandSideEffect o s).cart = s.cart := by cases o <;> rfl

@[simp] theorem kept_operandWrite (o : Operand8) : kept (operandWrite o v s).ppu (operandWrite o v s).cart = kept s.ppu s.cart := by
  cases o <;> simp [operandWrite]

end Operations

/-- The operation completes, and keeps the PPU's progress and the ROM image. -/
def Keeps (s : State) (r : Result) : Prop := ∃ n t, r = done n t ∧ kept t.ppu t.cart = kept s.ppu s.cart

theorem done_keeps {s t : State} (n : Nat) (h : kept t.ppu t.cart = kept s.ppu s.cart) : Keeps s (done n t) := ⟨n, t, rfl, h⟩

/-- What an instruction stores goes over the bus; the rest of what it does is in the CPU. -/
theorem SharedOp.keeps {s : State} {r : Result} (h : SharedOp s r) : Keeps s r := by
  cases h
  case storeSp nn => exact done_keeps _ (by simp [busWrite16])
  case jumpIf k a => unfold Machine.jumpIf; split <;> exact done_keeps _ rfl
  case jumpRelIf k e => unfold Machine.jumpRelIf; split <;> exact done_keeps _ rfl
  case callIf k a => unfold Machine.callIf; split <;> exact done_keeps _ (by simp)
  case retIf k => unfold Machine.retIf; split <;> exact done_keeps _ rfl
  case illegal | reti => exact done_keeps _ rfl
  case alu8 op src len cycles => refine done_keeps _ ?_; split <;> simp
  all_goals exact done_keeps _ (by simp)

/-- A CPU step takes an interrupt, waits in HALT, or runs the instruction at PC (60_exceptions.md R340). -/
theorem cpuStep_keeps (s : State) : Keeps s (cpuStep s) := by
  unfold cpuStep
  dsimp only
  split
  · exact done_keeps _ (by simp)
  · split
    · exact done_keeps _ (by simp)
    · obtain ⟨n, t, e, ht⟩ := (exec_decode_sharedOp _ _ _ (promote (wake s))).keeps
      exact ⟨n, t, e, by simpa using ht⟩

/-- Every step runs the devices, from a state with the PPU's progress and the ROM image as before (20_memory.md R100). -/
theorem step_devices_kept (s : State) : ∃ t, step s = .next (devices t) ∧ kept t.ppu t.cart = kept s.ppu s.cart := by
  by_cases h : s.fault ≠ none ∨ s.cyclesLeft ≠ 0 ∨ (s.ticks + 1) % 4 ≠ 0
  · obtain ⟨n, e⟩ := step_of_no_cpuStep s h
    exact ⟨_, e, rfl⟩
  · obtain ⟨hf, hc, hp⟩ : s.fault = none ∧ s.cyclesLeft = 0 ∧ (s.ticks + 1) % 4 = 0 := by simpa using h
    obtain ⟨n, t, e, ht⟩ := cpuStep_keeps (countTick s)
    refine ⟨burn (t.withCyclesLeft n), (tick_cpuStep s ((cpuPhase_countTick s).2 hp) hf hc).trans ?_, ht⟩
    rw [e]
    rfl

/-! ## The clock of a frame -/

theorem ppuOnTime_of_progress {p q : Ppu} (h : q.progress = p.progress) (hp : PpuOnTime p) : PpuOnTime q := by
  show PpuOnTime q.progress
  rw [h]
  exact hp

theorem frameClock_of_progress {p q : Ppu} (h : q.progress = p.progress) : frameClock q = frameClock p := by
  show frameClock q.progress = frameClock p
  rw [h]
  rfl

/-- A dot that stays on its line is one dot of the frame's clock. -/
theorem frameClock_next_dot {p q : Ppu} (hdot : q.lineDot = p.lineDot + 1) (hly : q.ly = p.ly) (hframe : q.frameCount = p.frameCount)
    (hlt : 456 * p.ly.toNat + p.lineDot + 4561 < frameDots ∨ 144 ≤ p.ly.toNat ∧ 456 * p.ly.toNat + p.lineDot + 1 < frameDots) :
    frameClock q = frameClock p + 1 := by
  unfold frameDots at hlt
  unfold frameClock frameDots
  rw [hdot, hly, hframe]
  omega

/-! ## Drawing: the fetcher's part of a dot -/

/-- The dot counted and the fetcher run, every other dot: what `drawTick` gives to the output (62_ppu.md R422, R436). -/
def fetchTick (p : Ppu) : Ppu :=
  if (p.lineDot + 1 - 81) % 2 = 0 then fetcherStep { p with lineDot := p.lineDot + 1 } else { p with lineDot := p.lineDot + 1 }

theorem fetchTick_frame (p : Ppu) : { fetchTick p with
    lineDot := p.lineDot, fetchPhase := p.fetchPhase, fetchCol := p.fetchCol, tileNo := p.tileNo, dataLo := p.dataLo,
    dataHi := p.dataHi, fifo := p.fifo } = p := by
  unfold fetchTick
  split
  · exact congrArg (fun q : Ppu => { q with lineDot := p.lineDot }) (fetcherStep_frame { p with lineDot := p.lineDot + 1 })
  · rfl

theorem fetchTick_lineDot (p : Ppu) : (fetchTick p).lineDot = p.lineDot + 1 := by
  unfold fetchTick
  split
  · exact (congrArg Ppu.lineDot (fetcherStep_frame { p with lineDot := p.lineDot + 1 }) :)
  · rfl

theorem dotsToPush_bounds (p : Ppu) : 1 ≤ dotsToPush p ∧ dotsToPush p ≤ 8 := by
  unfold dotsToPush
  cases p.fetchPhase <;> dsimp only <;> split <;> omega

/-- Either the next push is one dot nearer, or the FIFO holds eight pixels, as many as the push after it may need dots. -/
theorem fetchTick_fifo {p : Ppu} (h : 80 ≤ p.lineDot) :
    (fetchTick p).fifo = p.fifo ∧ dotsToPush (fetchTick p) + 1 = dotsToPush p ∨ 8 ≤ (fetchTick p).fifo.length := by
  unfold fetchTick
  split
  · have heven : p.lineDot % 2 = 0 := by omega
    have hodd : (p.lineDot + 1) % 2 ≠ 0 := by omega
    cases hphase : p.fetchPhase
    case push =>
      right
      simp only [fetcherStep]
      split
      · rw [List.length_append]
        exact Nat.le_add_left 8 _
      · exact Nat.le_of_lt (Nat.lt_of_not_le ‹_›)
    all_goals
      left
      simp [fetcherStep, dotsToPush, hphase, heven, hodd]
  · have hodd : p.lineDot % 2 ≠ 0 := by omega
    have heven : (p.lineDot + 1) % 2 = 0 := by omega
    left
    cases hphase : p.fetchPhase <;> simp [dotsToPush, hphase, heven, hodd]

/-! ## Drawing: the output's part of a dot -/

theorem windowStarts_winActive {p : Ppu} (h : windowStarts p = true) : p.winActive = false := by
  simp only [windowStarts, Bool.and_eq_true, Bool.not_eq_true'] at h
  exact h.2.1

theorem outputStep_lx_le (p : Ppu) : (outputStep p).lx ≤ p.lx + 1 := by
  unfold outputStep
  split
  · exact Nat.le_succ _
  · split
    · exact Nat.le_succ _
    · split
      · exact Nat.le_succ _
      · exact Nat.le_refl _

/-- A dot's output uses one dot of any bound on what is left: a pixel drawn or dropped, a dot waited for the push, or the start of the
window, which may cost fifteen (62_ppu.md R450). -/
theorem outputStep_budget {q : Ppu} {bound : Nat} (hlx : q.lx < 160)
    (h : 160 - q.lx + q.discard + (dotsToPush q - q.fifo.length) + (if q.winActive then 0 else 15) ≤ bound) :
    drawBudget (outputStep q) + 1 ≤ bound := by
  have hpush := dotsToPush_bounds q
  unfold outputStep
  split
  · rename_i hwin
    have hpush' := dotsToPush_bounds (startWindow q)
    rw [windowStarts_winActive hwin] at h
    show 160 - q.lx + (7 - q.wx.toNat) + (dotsToPush (startWindow q) - 1 - 0) + 0 + 1 ≤ bound
    simp only [Bool.false_eq_true, if_false] at h
    omega
  · split
    · rename_i hfifo
      rw [hfifo, List.length_nil] at h
      show 160 - q.lx + q.discard + (dotsToPush q - 1 - q.fifo.length) + (if q.winActive then 0 else 15) + 1 ≤ bound
      rw [hfifo, List.length_nil]
      omega
    · rename_i c rest hfifo
      rw [hfifo, List.length_cons] at h
      split
      · show 160 - q.lx + (q.discard - 1) + (dotsToPush q - 1 - rest.length) + (if q.winActive then 0 else 15) + 1 ≤ bound
        omega
      · show 160 - (q.lx + 1) + q.discard + (dotsToPush q - 1 - rest.length) + (if q.winActive then 0 else 15) + 1 ≤ bound
        omega

/-- A line starts at an even dot with 188 dots at most to draw in: 160 pixels, seven dropped, six waited for, a window start. -/
theorem drawBudget_startLine (p : Ppu) (h : p.lineDot % 2 = 0) : drawBudget (startLine p) ≤ 188 := by
  have hpush : dotsToPush (startLine p) = 7 := by
    show (if p.lineDot % 2 = 0 then 7 else 8) = 7
    exact if_pos h
  have hdiscard := Nat.mod_lt p.scx.toNat (show 0 < 8 by decide)
  unfold drawBudget
  rw [hpush]
  show 160 - 0 + p.scx.toNat % 8 + (7 - 1 - 0) + 15 ≤ 188
  omega

/-- What one dot of drawing leaves of the PPU, its last output apart from the end of the line. -/
structure Drawn (p q : Ppu) : Prop where
  mode : q.mode = p.mode
  ly : q.ly = p.ly
  lyc : q.lyc = p.lyc
  statEnables : q.statEnables = p.statEnables
  coincidence : q.coincidence = p.coincidence
  frameCount : q.frameCount = p.frameCount
  front : q.front = p.front
  lineDot : q.lineDot = p.lineDot + 1
  lx : q.lx ≤ p.lx + 1

theorem outputStep_fetchTick_drawn (p : Ppu) : Drawn p (outputStep (fetchTick p)) := by
  have hf := fetchTick_frame p
  have ho := outputStep_frame (fetchTick p)
  have hfields := (congrArg (fun q : Ppu => (q.mode, q.ly, q.lyc, q.statEnables, q.coincidence, q.frameCount, q.front)) ho :).trans
    (congrArg (fun q : Ppu => (q.mode, q.ly, q.lyc, q.statEnables, q.coincidence, q.frameCount, q.front)) hf :)
  simp only [Prod.mk.injEq] at hfields
  obtain ⟨hmode, hly, hlyc, hstat, hcoin, hframe, hfront⟩ := hfields
  refine ⟨hmode, hly, hlyc, hstat, hcoin, hframe, hfront, ?_, ?_⟩
  · exact (congrArg Ppu.lineDot ho :).trans (fetchTick_lineDot p)
  · exact (congrArg Ppu.lx hf :) ▸ outputStep_lx_le (fetchTick p)

/-- Each dot of drawing takes at least one off the budget. -/
theorem drawBudget_falls {p : Ppu} (hdot : 80 ≤ p.lineDot) (hlx : p.lx < 160) :
    drawBudget (outputStep (fetchTick p)) + 1 ≤ drawBudget p := by
  have hf := fetchTick_frame p
  have hlx' : (fetchTick p).lx = p.lx := (congrArg Ppu.lx hf :)
  have hdiscard : (fetchTick p).discard = p.discard := (congrArg Ppu.discard hf :)
  have hwin : (fetchTick p).winActive = p.winActive := (congrArg Ppu.winActive hf :)
  have hwait : dotsToPush (fetchTick p) - (fetchTick p).fifo.length ≤ dotsToPush p - 1 - p.fifo.length := by
    have := dotsToPush_bounds (fetchTick p)
    rcases fetchTick_fifo hdot with ⟨hfifo, hpush⟩ | hfull
    · rw [hfifo]
      omega
    · omega
  refine outputStep_budget (hlx' ▸ hlx) ?_
  rw [hlx', hdiscard, hwin, drawBudget]
  omega

/-! ## One tick of the PPU -/

section Ticks

variable {p : Ppu}

/-- After the line's last pixel HBLANK, with the coincidence latched (R423). -/
def endOfLine (p : Ppu) : Ppu × PpuRequests :=
  if p.lx = 160 then
    ({ p with mode := .hblank, coincidence := p.ly == p.lyc }, ⟨false, (lycEnabled p && p.ly == p.lyc) || hblankEnabled p⟩)
  else (p, .none)

theorem ppuTick_oamScan (hm : p.mode = .oamScan) : ppuTick p = (oamScanTick { p with lineDot := p.lineDot + 1 }, .none) := by
  unfold ppuTick
  dsimp only
  rw [hm]

theorem ppuTick_drawPixels (hm : p.mode = .drawPixels) : ppuTick p = endOfLine (outputStep (fetchTick p)) := by
  have htick : ppuTick p = drawTick { p with lineDot := p.lineDot + 1 } := by
    unfold ppuTick
    dsimp only
    rw [hm]
  exact htick

theorem ppuTick_hblank (hm : p.mode = .hblank) : ppuTick p = hblankTick { p with lineDot := p.lineDot + 1 } := by
  unfold ppuTick
  dsimp only
  rw [hm]

theorem ppuTick_vblank (hm : p.mode = .vblank) : ppuTick p = vblankTick { p with lineDot := p.lineDot + 1 } := by
  unfold ppuTick
  dsimp only
  rw [hm]

/-- After one tick the PPU is on time, and its clock one dot further. -/
def TicksOnTime (p q : Ppu) : Prop := PpuOnTime q ∧ frameClock q = frameClock p + 1

theorem drawPixels_ticksOnTime (hm : p.mode = .drawPixels) (h : PpuOnTime p) : TicksOnTime p (ppuTick p).1 := by
  simp only [PpuOnTime, hm] at h
  obtain ⟨hdot, hlx, hbudget, hly⟩ := h
  have hfalls := drawBudget_falls hdot hlx
  obtain ⟨hmode', hly', -, -, -, hframe', -, hdot', hlx'⟩ := outputStep_fetchTick_drawn p
  have hclock : frameClock (outputStep (fetchTick p)) = frameClock p + 1 := by
    apply frameClock_next_dot hdot' hly' hframe'
    unfold frameDots
    omega
  rw [ppuTick_drawPixels hm, endOfLine]
  split
  · refine ⟨?_, hclock⟩
    show (outputStep (fetchTick p)).lineDot < 456 ∧ (outputStep (fetchTick p)).ly.toNat ≤ 143
    rw [hly']
    omega
  · refine ⟨?_, hclock⟩
    simp only [PpuOnTime, hmode', hm, hly']
    omega

theorem oamScan_ticksOnTime (hm : p.mode = .oamScan) (h : PpuOnTime p) : TicksOnTime p (ppuTick p).1 := by
  simp only [PpuOnTime, hm] at h
  obtain ⟨hdot, hly⟩ := h
  have hclock : 456 * p.ly.toNat + p.lineDot + 4561 < frameDots := by
    unfold frameDots
    omega
  rw [ppuTick_oamScan hm]
  unfold oamScanTick
  split
  · rename_i hend
    refine ⟨?_, frameClock_next_dot rfl rfl rfl (.inl hclock)⟩
    have hend' : p.lineDot + 1 = 80 := hend
    have hbudget := drawBudget_startLine (scanOam { p with lineDot := p.lineDot + 1 }) (show (p.lineDot + 1) % 2 = 0 by omega)
    show 80 ≤ p.lineDot + 1 ∧ 0 < 160 ∧ p.lineDot + 1 + drawBudget (startLine (scanOam { p with lineDot := p.lineDot + 1 })) ≤ 268 ∧
      p.ly.toNat ≤ 143
    omega
  · refine ⟨?_, frameClock_next_dot rfl rfl rfl (.inl hclock)⟩
    rename_i hne
    have hne' : p.lineDot + 1 ≠ 80 := hne
    simp only [PpuOnTime, hm]
    omega

theorem hblank_ticksOnTime (hm : p.mode = .hblank) (h : PpuOnTime p) : TicksOnTime p (ppuTick p).1 := by
  simp only [PpuOnTime, hm] at h
  obtain ⟨hdot, hly⟩ := h
  have hnext : (p.ly + 1).toNat = p.ly.toNat + 1 := by bv_omega
  rw [ppuTick_hblank hm]
  unfold hblankTick
  dsimp only
  split
  · split
    · rename_i hend hlast
      constructor
      · show 0 < 456 ∧ 144 ≤ (p.ly + 1).toNat ∧ (p.ly + 1).toNat ≤ 153
        omega
      · show frameDots * (p.frameCount + 1) + (456 * (p.ly + 1).toNat + 0 + 10 * 456) % frameDots = frameClock p + 1
        unfold frameClock frameDots
        omega
    · rename_i hend hlast
      constructor
      · show 0 < 80 ∧ (p.ly + 1).toNat ≤ 143
        omega
      · show frameDots * p.frameCount + (456 * (p.ly + 1).toNat + 0 + 10 * 456) % frameDots = frameClock p + 1
        unfold frameClock frameDots
        omega
  · rename_i hne
    refine ⟨?_, frameClock_next_dot rfl rfl rfl (.inl ?_)⟩
    · simp only [PpuOnTime, hm]
      omega
    · unfold frameDots
      omega

theorem vblank_ticksOnTime (hm : p.mode = .vblank) (h : PpuOnTime p) : TicksOnTime p (ppuTick p).1 := by
  simp only [PpuOnTime, hm] at h
  obtain ⟨hdot, hlo, hhi⟩ := h
  have hnext : (p.ly + 1).toNat = p.ly.toNat + 1 := by bv_omega
  rw [ppuTick_vblank hm]
  unfold vblankTick
  dsimp only
  split
  · split
    · rename_i hend hlast
      have hly : p.ly.toNat + 1 = 154 := hnext.symm.trans (congrArg BitVec.toNat hlast)
      constructor
      · show 0 < 80 ∧ 0 ≤ 143
        omega
      · show frameDots * p.frameCount + (456 * 0 + 0 + 10 * 456) % frameDots = frameClock p + 1
        unfold frameClock frameDots
        omega
    · rename_i hend hne
      have hly : p.ly.toNat + 1 ≠ 154 := fun e => hne (BitVec.eq_of_toNat_eq (hnext.trans e))
      constructor
      · simp only [PpuOnTime, hm]
        omega
      · show frameDots * p.frameCount + (456 * (p.ly + 1).toNat + 0 + 10 * 456) % frameDots = frameClock p + 1
        unfold frameClock frameDots
        omega
  · rename_i hne
    refine ⟨?_, frameClock_next_dot rfl rfl rfl (.inr ⟨hlo, ?_⟩)⟩
    · simp only [PpuOnTime, hm]
      omega
    · unfold frameDots
      omega

theorem ppuTick_ticksOnTime (h : PpuOnTime p) : TicksOnTime p (ppuTick p).1 := by
  cases hm : p.mode
  case oamScan => exact oamScan_ticksOnTime hm h
  case drawPixels => exact drawPixels_ticksOnTime hm h
  case hblank => exact hblank_ticksOnTime hm h
  case vblank => exact vblank_ticksOnTime hm h

end Ticks

/-! ## One step of the machine -/

theorem dmaPart_progress (s : State) : (dmaPart s).ppu.progress = s.ppu.progress := by
  rw [dmaPart_ppu]
  rfl

/-- The devices run one PPU tick, after the DMA engine's byte in OAM. -/
theorem devices_ticksOnTime {s : State} (h : PpuOnTime s.ppu) : TicksOnTime s.ppu (devices s).ppu := by
  have hdma : (dmaPart (timerPart s)).ppu.progress = s.ppu.progress := by rw [dmaPart_progress, timerPart_ppu]
  obtain ⟨htime, hclock⟩ := ppuTick_ticksOnTime (ppuOnTime_of_progress hdma h)
  rw [devices_ppu]
  exact ⟨htime, hclock.trans (congrArg (· + 1) (frameClock_of_progress hdma))⟩

theorem step_ticksOnTime {s : State} (h : PpuOnTime s.ppu) : ∃ t, step s = .next t ∧ TicksOnTime s.ppu t.ppu := by
  obtain ⟨t, e, hkept⟩ := step_devices_kept s
  have hprogress : t.ppu.progress = s.ppu.progress := congrArg Prod.fst hkept
  obtain ⟨htime, hclock⟩ := devices_ticksOnTime (ppuOnTime_of_progress hprogress h)
  exact ⟨_, e, htime, hclock.trans (congrArg (· + 1) (frameClock_of_progress hprogress))⟩

end Sys2Proof.Machine

namespace Sys2Proof

open Machine

/-- Settles O12: the CPU leaves the PPU's progress alone (`step_devices_kept`), and each PPU tick is on time
(`ppuTick_ticksOnTime`), drawing because its budget falls (`drawBudget_falls`). -/
theorem ppuKeepsTime : Obligations.PpuKeepsTime := fun _ h => step_ticksOnTime h

end Sys2Proof

namespace Sys2Proof.Machine

/-! ## Counting the dots -/

theorem advance_clock (n : Nat) {s : State} (h : PpuOnTime s.ppu) :
    ∃ t, advance n s = .next t ∧ PpuOnTime t.ppu ∧ frameClock t.ppu = frameClock s.ppu + n := by
  induction n generalizing s with
  | zero => exact ⟨s, rfl, h, (Nat.add_zero _).symm⟩
  | succ n ih =>
    obtain ⟨u, e, hu, hclock⟩ := step_ticksOnTime h
    obtain ⟨t, e', ht, hclock'⟩ := ih hu
    refine ⟨t, ?_, ht, by omega⟩
    rw [advance, show tick s = .next u from e]
    exact e'

/-- On time, the dot and the line are in their ranges. -/
theorem PpuOnTime.bounds {p : Ppu} (h : PpuOnTime p) : p.lineDot < 456 ∧ p.ly.toNat ≤ 153 := by
  unfold PpuOnTime at h
  split at h
  · omega
  · omega
  · omega
  · omega

end Sys2Proof.Machine

namespace Sys2Proof

open Machine

/-- Settles O13: the clock counts the ticks (`advance_clock`), and a dot, a line and a frame are read off it. -/
theorem lineTakes456DotsAndFrame154Lines : Obligations.LineTakes456DotsAndFrame154Lines := by
  intro s h
  have hs := h.bounds
  constructor
  · obtain ⟨t, e, ht, hclock⟩ := advance_clock 456 h
    have hb := ht.bounds
    unfold frameClock frameDots at hclock
    have hdot : t.ppu.lineDot = s.ppu.lineDot := by omega
    refine ⟨t, e, hdot, BitVec.eq_of_toNat_eq ?_⟩
    split
    · have hlast : s.ppu.ly.toNat = 153 := congrArg BitVec.toNat ‹s.ppu.ly = 153›
      show t.ppu.ly.toNat = 0
      omega
    · have hinner : s.ppu.ly.toNat ≠ 153 := fun e => ‹s.ppu.ly ≠ 153› (BitVec.eq_of_toNat_eq e)
      have hnext : (s.ppu.ly + 1).toNat = s.ppu.ly.toNat + 1 := by bv_omega
      omega
  · obtain ⟨t, e, ht, hclock⟩ := advance_clock 70224 h
    have hb := ht.bounds
    unfold frameClock frameDots at hclock
    refine ⟨t, e, by omega, BitVec.eq_of_toNat_eq (by omega), by omega⟩

end Sys2Proof
end

section
/-! The CPU step (60_exceptions.md R340): what is pending, what is dispatched, and which instruction runs in which state; the system
instructions and the unassigned opcodes (47_system.md): O8, O9, O17, O18, O52, O53. -/

namespace Sys2Proof.Machine

/-! ## The first byte 0xCB (47_system.md R326) -/

theorem r8At_eq_none_iff (z : Oct) : r8At z = none ↔ z = .o6 := by cases z <;> decide

/-- The fields of the second byte choose the shared operation and the count that the CB entry has (45_cb.md R270). -/
theorem exec_prefix_CB (op2 : Byte) (s : State) : exec (.prefix_CB op2) s = exec (decodeCb op2) s := by
  show cbByFields op2 s = exec (decodeCb op2) s
  unfold cbByFields decodeCb slotOperand
  cases hz : r8At (fieldZ op2)
  case none =>
    have hind := (r8At_eq_none_iff _).1 hz
    cases fieldX op2
    case q0 => simp only [exec_rotInd, hind, if_true]
    case q1 => simp only [exec_bitInd, hind, if_true]
    case q2 => simp only [exec_resInd, hind, if_true]
    case q3 => simp only [exec_setInd, hind, if_true]
  case some r =>
    have hreg : fieldZ op2 ≠ .o6 := fun e => by simp [(r8At_eq_none_iff _).2 e] at hz
    cases fieldX op2
    case q0 => simp only [exec_rotReg, hreg, if_false]
    case q1 => simp only [exec_bitReg, hreg, if_false]
    case q2 => simp only [exec_resReg, hreg, if_false]
    case q3 => simp only [exec_setReg, hreg, if_false]

/-! ## What is pending (R340, R341, R344) -/

theorem pending_eq (s : State) : pending s = s.ie &&& (0xE0 ||| s.ifReg.setWidth 8) &&& 0x1F :=
  congrArg (s.ie &&& · &&& 0x1F) (busRead_ioAddr .ifr s)

theorem pending_getLsbD (s : State) {j : Nat} (hj : j < 5) : (pending s).getLsbD j = (s.ie.getLsbD j && s.ifReg.getLsbD j) := by
  rw [pending_eq]
  interval_cases j <;> simp

theorem pending_eq_zero_iff (s : State) : pending s = 0 ↔ ∀ j < 5, (s.ie.getLsbD j && s.ifReg.getLsbD j) = false := by
  constructor
  · intro h j hj
    rw [← pending_getLsbD s hj, h]
    exact BitVec.getLsbD_zero
  · intro h
    apply BitVec.eq_of_getLsbD_eq
    intro j hj
    by_cases hj5 : j < 5
    · rw [pending_getLsbD s hj5, h j hj5]
      exact BitVec.getLsbD_zero.symm
    · rw [pending_eq]
      have hj5' : 5 ≤ j := Nat.le_of_not_lt hj5
      interval_cases j <;> simp

/-- The first source of the pending set is the one whose lower bits are all 0 (R344). -/
theorem highestPriority_eq_some {p : Byte} {i : IntSource} (hi : p.getLsbD (sourceBit i) = true)
    (hfirst : ∀ j < sourceBit i, p.getLsbD j = false) : highestPriority p = some i := by
  unfold highestPriority
  cases i <;> simp only [sourceBit] at hi hfirst
  case vblank => simp only [hi, if_true]
  case lcdStat => simp only [hi, hfirst 0 (by decide), Bool.false_eq_true, if_true, if_false]
  case timer => simp only [hi, hfirst 0 (by decide), hfirst 1 (by decide), Bool.false_eq_true, if_true, if_false]
  case serial =>
    simp only [hi, hfirst 0 (by decide), hfirst 1 (by decide), hfirst 2 (by decide), Bool.false_eq_true, if_true, if_false]
  case joypad =>
    simp only [hi, hfirst 0 (by decide), hfirst 1 (by decide), hfirst 2 (by decide), hfirst 3 (by decide), Bool.false_eq_true,
      if_true, if_false]

theorem exists_sourceBit_eq {i : Nat} (h : i < 5) : ∃ src, sourceBit src = i := by
  interval_cases i
  · exact ⟨.vblank, rfl⟩
  · exact ⟨.lcdStat, rfl⟩
  · exact ⟨.timer, rfl⟩
  · exact ⟨.serial, rfl⟩
  · exact ⟨.joypad, rfl⟩

/-! ## The four steps of the CPU step (R340) -/

section CpuStep

variable {s : State}

theorem wake_of_running (h : s.halted = false) : wake s = s := by
  unfold wake
  split
  · rw [← h]
  · rfl

theorem wake_of_pending (h : pending s ≠ 0) : wake s = { s with halted := false } := if_pos h

theorem promote_eq (s : State) : promote s = { s with ime := s.ime || s.imeEnabling, imeEnabling := false } := by
  unfold promote
  split
  · simp [*]
  · rename_i h
    simp only [Bool.not_eq_true] at h
    rw [h, Bool.or_false, ← h]

/-- Nothing is dispatched while IME is 0 or nothing is pending. -/
theorem dispatching_eq_none (h : s.ime = false ∨ pending s = 0) : dispatching s = none := by
  unfold dispatching
  split
  · rename_i hd
    rw [h.resolve_left (by simp [hd.1])]
    rfl
  · rfl

/-- A CPU that is awake and serves nothing runs the instruction at PC, with a pending EI promoted. -/
theorem cpuStep_runs (hdispatch : s.ime = false ∨ pending s = 0) (hawake : (wake s).halted = false) :
    cpuStep s = exec (fetch s) (promote (wake s)) := by
  have hnone : dispatching (wake s) = none := dispatching_eq_none (by simpa using hdispatch)
  have hfetch : fetch (wake s) = fetch s := by simp [fetch]
  simp only [cpuStep, hnone, hawake, hfetch, Bool.false_eq_true, if_false]

theorem cpuStep_waits (hhalted : s.halted = true) (hpend : pending s = 0) : cpuStep s = done 1 s := by
  have hwake : wake s = s := if_neg (not_not.2 hpend)
  simp only [cpuStep, hwake, dispatching_eq_none (.inr hpend), hhalted, if_true]

/-- With IME set the first pending source is served, from HALT too. -/
theorem cpuStep_dispatches {i : IntSource} (hime : s.ime = true) (hi : (pending s).getLsbD (sourceBit i) = true)
    (hfirst : ∀ j < sourceBit i, (pending s).getLsbD j = false) :
    cpuStep s = done 5 (takeInterrupt i { s with halted := false }) := by
  have hpend : pending s ≠ 0 := by
    intro e
    rw [e] at hi
    exact Bool.noConfusion (BitVec.getLsbD_zero.symm.trans hi)
  have hsome : dispatching (wake s) = some i := by
    rw [dispatching, if_pos ⟨(wake_ime s).trans hime, wake_halted_of_pending hpend⟩, pending_wake]
    exact highestPriority_eq_some hi hfirst
  rw [← wake_of_pending hpend]
  simp only [cpuStep, hsome]
  rfl

end CpuStep

/-! ## What taking an interrupt leaves (R343) -/

theorem requestBit_eq (i : IntSource) : requestBit i = (1 : BitVec 5) <<< sourceBit i := by cases i <;> rfl

@[simp] theorem acknowledge_pc (i : IntSource) (s : State) : (s.acknowledge i).pc = s.pc := rfl

@[simp] theorem acknowledge_sp (i : IntSource) (s : State) : (s.acknowledge i).sp = s.sp := rfl

@[simp] theorem acknowledge_cyclesLeft (i : IntSource) (s : State) : (s.acknowledge i).cyclesLeft = s.cyclesLeft := rfl

/-- Of what is read, acknowledging a source changes IF alone. -/
theorem busRead_acknowledge (i : IntSource) {x : Word} (hx : x ≠ 0xFF0F) (s : State) :
    busRead x (s.acknowledge i) = busRead x s := by
  unfold busRead readWithMask
  cases hr : regionOf x
  case io =>
    dsimp only
    cases hg : ioRegAt (loByte x) with
    | none => rfl
    | some g =>
      cases g
      case ifr => exact absurd (eq_ioAddr hr hg) hx
      all_goals rfl
  all_goals rfl

/-- But for PC, SP and the count, taking an interrupt is the acknowledgement and two bus writes, the high byte first. -/
theorem takeInterrupt_frame (i : IntSource) (n : Nat) (s : State) :
    { (takeInterrupt i s).withCyclesLeft n with pc := s.pc, sp := s.sp, cyclesLeft := s.cyclesLeft } =
      busWrite (s.sp - 2) (loByte s.pc) (busWrite (s.sp - 1) (hiByte s.pc) (s.acknowledge i)) := by
  rw [takeInterrupt_eq, push16_eq, acknowledge_sp]
  generalize hu : busWrite (s.sp - 2) (loByte s.pc) (busWrite (s.sp - 1) (hiByte s.pc) (s.acknowledge i)) = u
  have hpc : u.pc = s.pc := by rw [← hu]; simp
  have hsp : u.sp = s.sp := by rw [← hu]; simp
  have hcycles : u.cyclesLeft = s.cyclesLeft := by rw [← hu]; simp
  rw [← hpc, ← hsp, ← hcycles]
  rfl

theorem busRead_takeInterrupt (i : IntSource) {x : Word} (s : State) (hx : x ≠ 0xFF0F) (hhi : storeReach (s.sp - 1) x = false)
    (hlo : storeReach (s.sp - 2) x = false) : busRead x (takeInterrupt i s) = busRead x s := by
  rw [takeInterrupt_eq, busRead_withPc, push16_eq, busRead_withSp, acknowledge_sp, busRead_busWrite_of_not_reached hlo,
    busRead_busWrite_of_not_reached hhi, busRead_acknowledge i hx]

end Sys2Proof.Machine

/-! ## The claims -/

namespace Sys2Proof

open Machine

/-- Settles O8: by its fields the second byte runs what the CB table has for it (`exec_prefix_CB`), and every entry completes. -/
theorem prefixRunsTheCbInstruction : Obligations.PrefixRunsTheCbInstruction := by
  refine fun op2 s => ⟨fun b2 => rfl, ?_⟩
  obtain ⟨n, t, e, -⟩ := (exec_decodeCb_sharedOp op2 s).completes
  rw [exec_prefix_CB, e]
  exact ⟨_, rfl, rfl⟩

/-- Settles O52: each is its meaning as it stands. -/
theorem nopStopHaltDiEi : Obligations.NopStopHaltDiEi :=
  ⟨rfl, fun _ => rfl, rfl, rfl, rfl, fun _ => ⟨rfl, fun _ => rfl, rfl, rfl, rfl⟩⟩

/-- Settles O53: all eleven are `illegal` under the policy `fault`; after a fault only the devices act (`step_devices`). -/
theorem illegalOpcodesSetTheFault : Obligations.IllegalOpcodesSetTheFault := by
  refine ⟨fun u => ⟨by cases u <;> rfl, by cases u <;> decide, fun s => exec_illegal u s⟩, fun s x hx => ?stays⟩
  have hcount : SameCpuState s (countTick s) := ⟨fun r _ => by cases r <;> rfl, rfl, rfl, rfl, rfl, rfl, rfl, rfl⟩
  obtain ⟨hregs, -, -, hpc, -, -, -, hfault⟩ := devices_sameCpuState hcount
  exact ⟨_, step_devices s (.inr (by simp [hx])), hfault.trans hx, hpc, hregs⟩

/-- Settles O9: the three bytes decode to the instruction that is fetched (`decodeBytes_three`), and nothing comes before it. -/
theorem stepRunsTheDecodedInstruction : Obligations.StepRunsTheDecodedInstruction := by
  intro s i rest t hphase hfault hcycles hhalted hdispatch hdecode hexec
  have hi : fetch s = i := by
    rw [decodeBytes_three] at hdecode
    exact congrArg Prod.fst (Except.ok.inj hdecode)
  have hcpu : cpuStep (countTick s) = .next t := by
    have hawake : wake (countTick s) = countTick s := wake_of_running hhalted
    have hfetch : fetch (countTick s) = fetch s := by simp [fetch]
    rw [cpuStep_runs (by simpa [pending] using hdispatch) (by rw [hawake]; exact hhalted), hawake, promote_eq, hfetch, hi]
    exact hexec
  refine (tick_cpuStep s ((cpuPhase_countTick s).2 hphase) hfault hcycles).trans ?_
  rw [hcpu]
  rfl

/-- Settles O18: what is pending decides whether the CPU wakes (`pending_eq_zero_iff`); with IME = 0 it then runs the instruction at
PC (`cpuStep_runs`). -/
theorem haltAndEiInTheCpuStep : Obligations.HaltAndEiInTheCpuStep := by
  refine ⟨fun s hhalted hnone => ?waits, fun s hhalted hsome hime => ?wakes, fun s hhalted hime hen => ?promotes⟩
  case waits => exact cpuStep_waits hhalted ((pending_eq_zero_iff s).2 hnone)
  case wakes =>
    obtain ⟨j, hj, hbits⟩ := hsome
    have hpend : pending s ≠ 0 := fun e => by simp [(pending_eq_zero_iff s).1 e j hj] at hbits
    rw [cpuStep_runs (.inl hime) (wake_halted_of_pending hpend), wake_of_pending hpend, promote_eq]
    simp only [hime, Bool.false_or]
  case promotes =>
    have hawake := wake_of_running hhalted
    rw [cpuStep_runs (.inl hime) (by rw [hawake]; exact hhalted), hawake, promote_eq]
    simp only [hime, hen, Bool.false_or]

/-- Settles O17: the source is the first of the pending set (`cpuStep_dispatches`); taking it is the acknowledgement and the push
(`takeInterrupt_frame`). -/
theorem interruptEntry : Obligations.InterruptEntry := by
  intro s i hi hime hie hif hfirst
  obtain ⟨src, rfl⟩ := exists_sourceBit_eq hi
  have hpend : (pending s).getLsbD (sourceBit src) = true := by rw [pending_getLsbD s hi, hie, hif]; rfl
  have hlower : ∀ j < sourceBit src, (pending s).getLsbD j = false := fun j hj => by
    rw [pending_getLsbD s (Nat.lt_trans hj hi), hfirst j hj]
  refine ⟨_, (cpuStep_dispatches hime hpend hlower).trans (done_eq _ _), rfl, rfl, ?sp, ?frame, fun r _ => ?registers, ?f, ?reads⟩
  case sp => simp
  case frame =>
    refine (takeInterrupt_frame src 5 { s with halted := false }).trans ?_
    rw [State.acknowledge, requestBit_eq]
  case registers =>
    rw [getR8_withCyclesLeft, getR8_takeInterrupt]
    cases r <;> rfl
  case f => simp
  case reads =>
    intro x hx hhi hlo
    rw [busRead_withCyclesLeft, busRead_takeInterrupt src { s with halted := false } hx hhi hlo]
    exact busRead_congr (by constructor <;> rfl) x

end Sys2Proof
end

section
/-! The devices' parts of a tick: the DMA engine (61_timer_dma_io.md R390 to R392), the timer (R380 to R383), and the PPU's requests
(62_ppu.md R421 to R425): O56, O57, O59. -/

namespace Sys2Proof.Machine

/-! ## The DMA engine -/

theorem dmaPart_active {s : State} (h : s.dma.active = true) : dmaPart s = dmaTick s := if_pos h

theorem dmaSource_eq (d : Dma) : dmaSource d = BitVec.ofNat 16 (256 * d.page.toNat + d.offset) := by
  rw [dmaSource, Nat.mul_comm]

/-- An active transfer stays active until its last byte. -/
theorem dmaTick_dma {s : State} (h : s.dma.active = true) (hok : DmaOk s.dma) :
    (dmaTick s).dma = ⟨decide (s.dma.offset + 1 < 160), s.dma.page, s.dma.offset + 1⟩ := by
  have hlt := hok.left h
  have hactive : (if s.dma.offset + 1 = 160 then false else s.dma.active) = decide (s.dma.offset + 1 < 160) := by
    split
    · exact (decide_eq_false (by omega)).symm
    · exact h.trans (decide_eq_true (by omega)).symm
  exact congrArg (Dma.mk · s.dma.page (s.dma.offset + 1)) hactive

theorem read_dmaTick_oam (s : State) (k : Nat) : Store.read (dmaTick s).ppu.oam k =
    if k = s.dma.offset then rawRead (dmaSource s.dma) s else Store.read s.ppu.oam k := by
  show Store.read (Store.write s.ppu.oam s.dma.offset (rawRead (dmaSource s.dma) s)) k = _
  rw [Store.read_write]
  exact if_congr eq_comm rfl rfl

/-- Without a transfer the bus reads as the engine does (20_memory.md R86). -/
theorem rawRead_eq_busRead (a : Word) (s : State) (page : Byte) (offset : Nat) (h : s.dma.page = page) :
    rawRead a s = busRead a { s with dma := ⟨false, page, offset⟩ } := by
  subst h
  unfold rawRead busRead readWithMask
  cases regionOf a
  case io =>
    dsimp only
    cases ioRegAt (loByte a) with
    | none => rfl
    | some g => cases g <;> rfl
  all_goals rfl

/-! ## The timer -/

/-- The ticks between two counts of TIMA, by TAC's low two bits (R382). -/
def timerPeriod (tac : BitVec 3) : Nat :=
  match (tac.extractLsb' 0 2).toNat with
  | 0 => 1024
  | 1 => 16
  | 2 => 64
  | _ => 256

theorem timerPeriod_eq (tac : BitVec 3) : timerPeriod tac = 2 ^ (timerBit tac + 1) := by revert tac; decide

theorem timerBit_lt (tac : BitVec 3) : timerBit tac < 16 := by revert tac; decide

/-- Bit `b` of a count falls exactly when the next count is a multiple of `2 ^ (b + 1)` (R381). -/
theorem bit_falls_iff (n b : Nat) : n.testBit b = true ∧ (n + 1).testBit b = false ↔ (n + 1) % 2 ^ (b + 1) = 0 := by
  rw [Nat.testBit_eq_decide_div_mod_eq, Nat.testBit_eq_decide_div_mod_eq, decide_eq_true_eq, decide_eq_false_iff_not, Nat.pow_succ,
    Nat.mod_mul, Nat.add_eq_zero_iff, Nat.mul_eq_zero, Nat.succ_div, ← Nat.dvd_iff_mod_eq_zero]
  have hpos : 2 ^ b ≠ 0 := by simp
  by_cases hdvd : 2 ^ b ∣ n + 1
  · simp only [hdvd, hpos, if_true, true_and, false_or]
    omega
  · simp only [hdvd, if_false, false_and, iff_false]
    omega

theorem timerEdge_iff (t : Timer) :
    timerEdge t = true ↔ t.tac.getLsbD 2 = true ∧ (t.div16.toNat + 1) % timerPeriod t.tac = 0 := by
  have hnext : (t.div16 + 1).getLsbD (timerBit t.tac) = (t.div16.toNat + 1).testBit (timerBit t.tac) := by
    rw [BitVec.getLsbD, BitVec.toNat_add]
    exact (Nat.testBit_mod_two_pow ..).trans (by simp [timerBit_lt])
  rw [timerPeriod_eq, ← bit_falls_iff, ← hnext]
  simp [timerEdge, BitVec.getLsbD]

/-- The timer one tick later, field by field (R381). -/
theorem timerTick_eq (t : Timer) : timerTick t =
    ({ t with
        div16 := t.div16 + 1
        tima := if timerEdge t then (if t.tima = 0xFF then t.tma else t.tima + 1) else t.tima },
      timerEdge t && t.tima == 0xFF) := by
  unfold timerTick
  split
  · split
    · rename_i hedge hfull
      rw [hedge, hfull]
      rfl
    · rename_i hedge hne
      rw [hedge, beq_false_of_ne hne]
      rfl
  · rename_i hedge
    rw [Bool.eq_false_iff.2 hedge]
    rfl

/-! ## The PPU's transitions and requests -/

/-- The mode, the frames counted, the host's frame and the coincidence flag of `q`. -/
structure Shows (q : Ppu) (mode : PpuMode) (frames : Nat) (front : Store 2) (coincidence : Bool) : Prop where
  mode : q.mode = mode
  frameCount : q.frameCount = frames
  front : q.front = front
  coincidence : q.coincidence = coincidence

/-- What one PPU tick from `p` to `q` can do, with its requests `r` (62_ppu.md R422 to R425). -/
inductive PpuTransition (p q : Ppu) (r : PpuRequests) : Prop where
  | stays (hq : Shows q p.mode p.frameCount p.front p.coincidence) (hr : r = .none)
  | draws (hp : p.mode = .oamScan) (hq : Shows q .drawPixels p.frameCount p.front p.coincidence) (hr : r = .none)
  | endsLine (hp : p.mode = .drawPixels) (hq : Shows q .hblank p.frameCount p.front (p.ly == p.lyc))
      (hr : r = ⟨false, (lycEnabled p && p.ly == p.lyc) || hblankEnabled p⟩)
  | entersVBlank (hp : p.mode = .hblank) (hq : Shows q .vblank (p.frameCount + 1) p.framebuffer p.coincidence)
      (hr : r = ⟨true, vblankEnabled p⟩)
  | scansNext (hp : p.mode = .hblank ∨ p.mode = .vblank) (hq : Shows q .oamScan p.frameCount p.front p.coincidence)
      (hr : r = ⟨false, oamScanEnabled p⟩)

section Transitions

variable {p : Ppu}

theorem oamScan_transition (hp : p.mode = .oamScan) : PpuTransition p (ppuTick p).1 (ppuTick p).2 := by
  rw [ppuTick_oamScan hp]
  unfold oamScanTick
  split
  · exact .draws hp ⟨rfl, rfl, rfl, rfl⟩ rfl
  · exact .stays ⟨rfl, rfl, rfl, rfl⟩ rfl

/-- A dot of drawing shows what the dot before showed; the end of the line latches the coincidence of LY and LYC. -/
theorem drawPixels_transition (hp : p.mode = .drawPixels) : PpuTransition p (ppuTick p).1 (ppuTick p).2 := by
  obtain ⟨hmode, hly, hlyc, hstat, hcoin, hframe, hfront, -, -⟩ := outputStep_fetchTick_drawn p
  rw [ppuTick_drawPixels hp]
  unfold endOfLine lycEnabled hblankEnabled
  rw [hly, hlyc, hstat]
  split
  · exact .endsLine hp ⟨rfl, hframe, hfront, rfl⟩ rfl
  · exact .stays ⟨hmode, hframe, hfront, hcoin⟩ rfl

theorem hblank_transition (hp : p.mode = .hblank) : PpuTransition p (ppuTick p).1 (ppuTick p).2 := by
  rw [ppuTick_hblank hp]
  unfold hblankTick
  dsimp only
  split
  · split
    · exact .entersVBlank hp ⟨rfl, rfl, rfl, rfl⟩ rfl
    · exact .scansNext (.inl hp) ⟨rfl, rfl, rfl, rfl⟩ rfl
  · exact .stays ⟨rfl, rfl, rfl, rfl⟩ rfl

theorem vblank_transition (hp : p.mode = .vblank) : PpuTransition p (ppuTick p).1 (ppuTick p).2 := by
  rw [ppuTick_vblank hp]
  unfold vblankTick
  dsimp only
  split
  · split
    · exact .scansNext (.inr hp) ⟨rfl, rfl, rfl, rfl⟩ rfl
    · exact .stays ⟨rfl, rfl, rfl, rfl⟩ rfl
  · exact .stays ⟨rfl, rfl, rfl, rfl⟩ rfl

theorem ppuTick_transition (p : Ppu) : PpuTransition p (ppuTick p).1 (ppuTick p).2 := by
  cases hp : p.mode
  case oamScan => exact oamScan_transition hp
  case drawPixels => exact drawPixels_transition hp
  case hblank => exact hblank_transition hp
  case vblank => exact vblank_transition hp

section Requests

variable {q : Ppu} {r : PpuRequests} (h : PpuTransition p q r)

include h

theorem PpuTransition.vblank_iff : r.vblank = true ↔ p.mode = .hblank ∧ q.mode = .vblank := by
  rcases h with ⟨hq, rfl⟩ | ⟨hp, hq, rfl⟩ | ⟨hp, hq, rfl⟩ | ⟨hp, hq, rfl⟩ | ⟨hp, hq, rfl⟩
  case stays => cases hp : p.mode <;> simp [PpuRequests.none, hq.mode, hp]
  case draws => simp [PpuRequests.none, hp]
  case endsLine => simp [hp]
  case entersVBlank => simp [hp, hq.mode]
  case scansNext => simp [hq.mode]

theorem PpuTransition.frameCount_eq : q.frameCount = if r.vblank then p.frameCount + 1 else p.frameCount := by
  rcases h with ⟨hq, rfl⟩ | ⟨hp, hq, rfl⟩ | ⟨hp, hq, rfl⟩ | ⟨hp, hq, rfl⟩ | ⟨hp, hq, rfl⟩ <;> exact hq.frameCount

theorem PpuTransition.front_eq : q.front = if r.vblank then p.framebuffer else p.front := by
  rcases h with ⟨hq, rfl⟩ | ⟨hp, hq, rfl⟩ | ⟨hp, hq, rfl⟩ | ⟨hp, hq, rfl⟩ | ⟨hp, hq, rfl⟩ <;> exact hq.front

theorem PpuTransition.coincidence_eq :
    q.coincidence = if p.mode = .drawPixels ∧ q.mode = .hblank then p.ly == p.lyc else p.coincidence := by
  rcases h with ⟨hq, rfl⟩ | ⟨hp, hq, rfl⟩ | ⟨hp, hq, rfl⟩ | ⟨hp, hq, rfl⟩ | ⟨hp, hq, rfl⟩ <;> rw [hq.coincidence]
  case stays => cases hp : p.mode <;> simp [hq.mode, hp]
  case draws => simp [hp]
  case endsLine => simp [hp, hq.mode]
  case entersVBlank => simp [hp]
  case scansNext => simp [hq.mode]

theorem PpuTransition.lcdStat_iff : r.lcdStat = true ↔
    (p.mode = .drawPixels ∧ q.mode = .hblank ∧ (hblankEnabled p = true ∨ (lycEnabled p = true ∧ p.ly = p.lyc))) ∨
    (p.mode = .hblank ∧ q.mode = .vblank ∧ vblankEnabled p = true) ∨
    ((p.mode = .hblank ∨ p.mode = .vblank) ∧ q.mode = .oamScan ∧ oamScanEnabled p = true) := by
  rcases h with ⟨hq, rfl⟩ | ⟨hp, hq, rfl⟩ | ⟨hp, hq, rfl⟩ | ⟨hp, hq, rfl⟩ | ⟨hp, hq, rfl⟩
  case stays => cases hp : p.mode <;> simp [PpuRequests.none, hq.mode, hp]
  case draws => simp [PpuRequests.none, hp]
  case endsLine => simp [hp, hq.mode, or_comm]
  case entersVBlank => simp [hp, hq.mode]
  case scansNext => simp [hp, hq.mode]

end Requests

end Transitions

theorem ppuPart_getLsbD (s : State) (k : Nat) : (ppuPart s).ifReg.getLsbD k =
    (s.ifReg.getLsbD k || ((ppuTick s.ppu).2.vblank && decide (k = 0)) || ((ppuTick s.ppu).2.lcdStat && decide (k = 1))) := by
  simp only [ppuPart, request_getLsbD, sourceBit]
  rfl

end Sys2Proof.Machine

/-! ## The claims -/

namespace Sys2Proof

open Machine

/-- Settles O56: the start is a write of the DMA register; the engine's part is `dmaTick` while a transfer is active. -/
theorem dmaCopiesOneByteATick : Obligations.DmaCopiesOneByteATick := by
  refine ⟨fun v s => busWrite_ioAddr .dma v s, ?copies, fun s => dmaPart_inactive, ?unmasked⟩
  case copies =>
    rintro s t hactive hok rfl
    rw [dmaPart_active hactive, ← dmaSource_eq]
    exact ⟨read_dmaTick_oam s, dmaTick_dma hactive hok, fun p hp => hp ▸ rfl, rfl⟩
  case unmasked =>
    rintro a s d rfl
    exact rawRead_eq_busRead a s s.dma.page s.dma.offset rfl

/-- Settles O57: the falling edge is the next count being a multiple of the period (`timerEdge_iff`); the tick is `timerTick_eq`. -/
theorem timerCounts : Obligations.TimerCounts := by
  rintro s t rfl period hperiod counts hcounts
  have hedge : counts = timerEdge s.timer := by
    rw [hcounts, show period = timerPeriod s.timer.tac from hperiod]
    exact Bool.eq_iff_iff.2 (by simp [timerEdge_iff])
  rw [hedge, timerPart, request_eq, timerTick_eq]
  exact ⟨rfl, rfl, rfl, rfl, rfl, rfl⟩

/-- Settles O59: every tick is one of the transitions (`ppuTick_transition`), and IF takes its requests (`ppuPart_getLsbD`). -/
theorem ppuTransitionsAndRequests : Obligations.PpuTransitionsAndRequests := by
  intro p q r htick
  have h : PpuTransition p q r := by simpa [htick] using ppuTick_transition p
  refine ⟨h.vblank_iff, h.frameCount_eq, h.front_eq, h.coincidence_eq, h.lcdStat_iff, ?machine⟩
  rintro s t rfl rfl
  have hbits (k : Nat) : (ppuPart s).ifReg.getLsbD k =
      (s.ifReg.getLsbD k || (r.vblank && decide (k = 0)) || (r.lcdStat && decide (k = 1))) := by
    rw [ppuPart_getLsbD, htick]
  refine ⟨?ppu, ?bit0, ?bit1, fun k hk => ?others, ?rest⟩
  case ppu => rw [ppuPart_eq, htick]
  case bit0 => rw [hbits]; simp
  case bit1 => rw [hbits]; simp
  case others =>
    have hk0 : k ≠ 0 := by omega
    have hk1 : k ≠ 1 := by omega
    simp [hbits, hk0, hk1]
  case rest => rw [ppuPart_eq]

end Sys2Proof
end

section
/-! The OAM scan (62_ppu.md R430): the first ten entries on the line, in a stable order by X: O60. -/

namespace Sys2Proof.Machine

/-! ## The stable sort by X -/

/-- By X, and by OAM index where the X are equal. -/
def BeforeByX (c d : Candidate) : Prop := c.x.toNat < d.x.toNat ∨ (c.x = d.x ∧ c.index < d.index)

theorem beforeByX_of_le {c d : Candidate} (hx : c.x.toNat ≤ d.x.toNat) (hindex : c.index < d.index) : BeforeByX c d := by
  rcases Nat.lt_or_eq_of_le hx with hlt | heq
  · exact .inl hlt
  · exact .inr ⟨BitVec.eq_of_toNat_eq heq, hindex⟩

theorem BeforeByX.le {c d : Candidate} (h : BeforeByX c d) : c.x.toNat ≤ d.x.toNat := by
  rcases h with hlt | ⟨heq, -⟩
  · exact Nat.le_of_lt hlt
  · exact Nat.le_of_eq (congrArg BitVec.toNat heq)

theorem mem_insertByX {c d : Candidate} {l : List Candidate} : d ∈ insertByX c l ↔ d = c ∨ d ∈ l := by
  induction l with
  | nil => simp [insertByX]
  | cons k l ih =>
    unfold insertByX
    split
    · exact List.mem_cons
    · rw [List.mem_cons, ih, List.mem_cons, or_left_comm]

theorem mem_sortByX {d : Candidate} {l : List Candidate} : d ∈ sortByX l ↔ d ∈ l := by
  induction l with
  | nil => rfl
  | cons c l ih => rw [sortByX, mem_insertByX, ih, List.mem_cons]

/-- A record of a lower index than all the others is put before those of its own X. -/
theorem pairwise_insertByX {c : Candidate} {l : List Candidate} (hl : l.Pairwise BeforeByX) (hc : ∀ d ∈ l, c.index < d.index) :
    (insertByX c l).Pairwise BeforeByX := by
  induction l with
  | nil => exact List.pairwise_singleton _ _
  | cons k l ih =>
    obtain ⟨hk, hl'⟩ := List.pairwise_cons.1 hl
    unfold insertByX
    split
    · rename_i hle
      refine List.pairwise_cons.2 ⟨fun d hd => beforeByX_of_le ?_ (hc d hd), hl⟩
      rcases List.mem_cons.1 hd with rfl | hd
      · exact hle
      · exact Nat.le_trans hle (hk d hd).le
    · rename_i hgt
      refine List.pairwise_cons.2 ⟨fun d hd => ?_, ih hl' fun d hd => hc d (List.mem_cons_of_mem k hd)⟩
      rcases mem_insertByX.1 hd with rfl | hd
      · exact .inl (Nat.lt_of_not_le hgt)
      · exact hk d hd

theorem pairwise_sortByX {l : List Candidate} (hl : l.Pairwise (·.index < ·.index)) : (sortByX l).Pairwise BeforeByX := by
  induction l with
  | nil => exact .nil
  | cons c l ih =>
    obtain ⟨hc, hl'⟩ := List.pairwise_cons.1 hl
    exact pairwise_insertByX (ih hl') fun d hd => hc d (mem_sortByX.1 hd)

/-! ## The first ten on the line -/

/-- The numbers below `n` that are chosen, in order. -/
def chosenBelow (chosen : Nat → Bool) (n : Nat) : List Nat := (List.range n).filter chosen

theorem mem_chosenBelow {chosen : Nat → Bool} {n i : Nat} : i ∈ chosenBelow chosen n ↔ i < n ∧ chosen i = true := by
  rw [chosenBelow, List.mem_filter, List.mem_range]

theorem chosenBelow_succ (chosen : Nat → Bool) (n : Nat) :
    chosenBelow chosen (n + 1) = chosenBelow chosen n ++ if chosen n then [n] else [] := by
  rw [chosenBelow, List.range_succ, List.filter_append, List.filter_singleton, Bool.cond_eq_ite]
  rfl

/-- A chosen number is among the first `m` when fewer than `m` are chosen before it. -/
theorem mem_take_chosenBelow {chosen : Nat → Bool} {m n i : Nat} :
    i ∈ (chosenBelow chosen n).take m ↔ i < n ∧ chosen i = true ∧ (chosenBelow chosen i).length < m := by
  induction n with
  | zero => simp [chosenBelow]
  | succ n ih =>
    have hlast (k : Nat) : i ∈ (if chosen n then [n] else []).take k ↔ i = n ∧ chosen n = true ∧ 0 < k := by
      cases k <;> cases chosen n <;> simp
    rw [chosenBelow_succ, List.take_append, List.mem_append, ih, hlast, Nat.sub_pos_iff_lt]
    constructor
    · rintro (⟨hi, h⟩ | ⟨rfl, h⟩)
      · exact ⟨Nat.lt_succ_of_lt hi, h⟩
      · exact ⟨Nat.lt_succ_self i, h⟩
    · rintro ⟨hi, h⟩
      rcases Nat.lt_succ_iff_lt_or_eq.1 hi with hlt | rfl
      · exact .inl ⟨hlt, h⟩
      · exact .inr ⟨rfl, h⟩

/-- A list of chosen numbers below `i` is no longer than all of them, which are such a list. -/
theorem length_chosenBelow_lt_iff {chosen : Nat → Bool} {i m : Nat} : (chosenBelow chosen i).length < m ↔
    ∀ l : List Nat, l.Nodup → (∀ j ∈ l, j < i ∧ chosen j = true) → l.length < m := by
  constructor
  · intro h l hnodup hl
    exact Nat.lt_of_le_of_lt (hnodup.subperm fun j hj => mem_chosenBelow.2 (hl j hj)).length_le h
  · intro h
    exact h _ (List.nodup_range.filter _) fun j hj => mem_chosenBelow.1 hj

/-- The candidates are the first ten chosen entries of OAM, sorted. -/
theorem scanOam_candidates (p : Ppu) : (scanOam p).candidates =
    sortByX (((chosenBelow (fun i => onLine p.ly (scanOam p).spriteHeight (oamEntry p.oam i)) 40).take 10).map (oamEntry p.oam)) := by
  rw [List.map_take, chosenBelow]
  exact congrArg (fun l => sortByX (l.take 10)) List.filter_map

end Sys2Proof.Machine

/-! ## The claim -/

namespace Sys2Proof

open Machine

/-- Settles O60: the sort is stable (`pairwise_sortByX`), and the first ten are those that fewer than ten precede
(`mem_take_chosenBelow`). -/
theorem spriteSelection : Obligations.SpriteSelection := by
  rintro p q height on rfl rfl hon
  have honLine (i : Nat) : onLine p.ly (scanOam p).spriteHeight (oamEntry p.oam i) = true ↔ on i := by
    rw [hon, onLine, Bool.and_eq_true, decide_eq_true_eq, decide_eq_true_eq]
    rfl
  refine ⟨rfl, ?length, ?order, fun c => ?members⟩
  case length =>
    rw [scanOam_candidates, sortByX_length, List.length_map, List.length_take]
    exact Nat.min_le_left _ _
  case order =>
    rw [scanOam_candidates]
    refine pairwise_sortByX (List.pairwise_map.2 (List.Pairwise.take ?_))
    exact List.pairwise_lt_range.filter _
  case members =>
    rw [scanOam_candidates, mem_sortByX, List.mem_map]
    simp only [mem_take_chosenBelow, length_chosenBelow_lt_iff, honLine]
    constructor
    · rintro ⟨i, ⟨hi, hon, hfew⟩, rfl⟩
      exact ⟨i, hi, rfl, hon, hfew⟩
    · rintro ⟨i, hi, rfl, hon, hfew⟩
      exact ⟨i, ⟨hi, hon, hfew⟩, rfl⟩

end Sys2Proof
end

section
/-! The machine after reset and after a load (70_reset_and_hazards.md R520; 63_cartridge_mbc.md R470 to R473, R510, R511): the reset
values, the two invariants, the outcomes of a load, and the ROM image that nothing writes: O1, O2, O3, O4, O14. -/

namespace Sys2Proof.Machine

/-! ## After reset (R520) -/

theorem arrayOk_nil {w : Nat} (n : Nat) : ArrayOk n ([] : Store w) := ⟨rfl, rfl⟩

theorem ppuReset_ok : PpuOk Ppu.reset where
  vram := arrayOk_nil _
  oam := arrayOk_nil _
  framebuffer := arrayOk_nil _
  front := arrayOk_nil _
  height := .inl rfl
  candidates := Nat.zero_le _
  fifo := Nat.zero_le _
  discard := Nat.zero_le _
  lx := Nat.zero_le _
  drawing := PpuMode.noConfusion
  lyVisible := fun _ => Nat.zero_le _
  lyVBlank := PpuMode.noConfusion
  windowVisible := fun _ => Nat.zero_le _
  windowVBlank := PpuMode.noConfusion
  settled := fun _ => rfl

theorem ppuReset_onTime : PpuOnTime Ppu.reset := ⟨by decide, by decide⟩

/-- With a good cartridge the machine after reset meets the invariant. -/
theorem ofCart_inv {k : Cart} (h : CartOk k) : Inv (State.ofCart k) where
  cpu := ⟨(by decide : Config.resetF &&& 0x0F = 0), Nat.zero_le _, fun _ e => nomatch e⟩
  dma := ⟨Nat.zero_le _, Bool.noConfusion⟩
  wram := arrayOk_nil _
  hram := arrayOk_nil _
  ppu := ppuReset_ok
  cart := h
  saved := fun _ _ e => nomatch e

theorem blank_ok : CartOk Cart.blank where
  rom := arrayOk_nil _
  cram := arrayOk_nil _
  mbc := trivial
  nibbles := trivial

theorem reset_pairs : wordOf Config.resetA Config.resetF = 0x01B0 ∧ wordOf Config.resetB Config.resetC = 0x0013 ∧
    wordOf Config.resetD Config.resetE = 0x00D8 ∧ wordOf Config.resetH Config.resetL = 0x014D := by decide

/-- Outside the cartridge's areas the bus reads do not depend on the cartridge. -/
theorem busRead_ofCart_eq_reset (k : Cart) {x : Word} (hrom : regionOf x ≠ .cartRom) (hram : regionOf x ≠ .cartRam) :
    busRead x (State.ofCart k) = busRead x State.reset := by
  unfold busRead readWithMask
  cases hr : regionOf x
  case cartRom => exact absurd hr hrom
  case cartRam => exact absurd hr hram
  all_goals rfl

/-- Every array is zero after reset, and so is what the bus reads of it. -/
theorem busRead_ofCart_array (k : Cart) {x : Word} (hrom : regionOf x ≠ .cartRom) (hram : regionOf x ≠ .cartRam)
    (hio : regionOf x ≠ .io) (hie : regionOf x ≠ .ie) : busRead x (State.ofCart k) = 0 := by
  unfold busRead readWithMask
  cases hr : regionOf x
  case cartRom => exact absurd hr hrom
  case cartRam => exact absurd hr hram
  case io => exact absurd hr hio
  case ie => exact absurd hr hie
  all_goals rfl

/-! ## The load (R472, R473) -/

theorem cartTypeOf_mbcOk {type : Byte} {ty : CartType} (h : cartTypeOf type = some ty) : MbcOk ty.mbc := by
  unfold cartTypeOf at h
  split at h <;> cases h <;> simp [MbcOk, Mbc1.reset, Mbc2.reset, Mbc3.reset]

theorem cartTypeOf_isSome_iff : ∀ type : Byte, (cartTypeOf type).isSome = true ↔
    type ∈ ([0x00, 0x01, 0x02, 0x03, 0x05, 0x06, 0x08, 0x09, 0x0F, 0x10, 0x11, 0x12, 0x13] : List Byte) := by decide

theorem cartTypeOf_mbc0 : ∀ type ∈ ([0x00, 0x08, 0x09] : List Byte), ∀ ty, cartTypeOf type = some ty → ty.mbc = .mbc0 := by
  intro type htype ty h
  fin_cases htype <;> cases h <;> rfl

/-- The cartridge that a load builds is good before its save is restored: its RAM is empty. -/
theorem cartOf_ok {image : Image} {ty : CartType} (himage : ArrayOk image.len image.bytes) (hmbc : MbcOk ty.mbc) :
    CartOk (cartOf image ty) where
  rom := himage
  cram := arrayOk_nil _
  mbc := hmbc
  nibbles := by
    unfold NibblesOk
    split
    · exact fun c hc => nomatch hc
    · trivial

/-- The restored bytes go into RAM, inside its size, masked as the MBC masks them. -/
theorem restoreFrom_ok {k : Cart} (h : CartOk k) (save : List Byte) (n : Nat) : CartOk (restoreFrom n save k) := by
  induction save generalizing n k with
  | nil => exact h
  | cons v save ih =>
    unfold restoreFrom
    split
    · exact ih (h.store ‹_› v) (n + 1)
    · exact h

theorem restoreFrom_rom (k : Cart) (save : List Byte) (n : Nat) :
    (restoreFrom n save k).rom = k.rom ∧ (restoreFrom n save k).romLen = k.romLen := by
  induction save generalizing n k with
  | nil => exact ⟨rfl, rfl⟩
  | cons v save ih =>
    unfold restoreFrom
    split
    · exact ih _ (n + 1)
    · exact ⟨rfl, rfl⟩

theorem restoreSave_ok {k : Cart} (h : CartOk k) (save : Option (List Byte)) : CartOk (restoreSave save k) := by
  unfold restoreSave
  split
  · split
    · exact restoreFrom_ok h _ 0
    · exact h
  · exact h

theorem restoreSave_rom (k : Cart) (save : Option (List Byte)) :
    (restoreSave save k).rom = k.rom ∧ (restoreSave save k).romLen = k.romLen := by
  unfold restoreSave
  split
  · split
    · exact restoreFrom_rom k _ 0
    · exact ⟨rfl, rfl⟩
  · exact ⟨rfl, rfl⟩

section Load

variable {image : Image} {save : Option (List Byte)}

/-- The size codes of the header are in their tables (R471, R473). -/
def CodesOk (image : Image) : Prop := (Store.read image.bytes 0x0148).toNat ≤ 8 ∧ (Store.read image.bytes 0x0149).toNat ≤ 5

theorem load_short (h : image.len < 0x0150) : load image save = .refused .loadMalformed := if_pos h

theorem load_unsupported (hlen : 0x0150 ≤ image.len) (htype : cartTypeOf (Store.read image.bytes 0x0147) = none) :
    load image save = .refused (.loadUnsupportedType (Store.read image.bytes 0x0147)) := by
  simp only [load, if_neg (Nat.not_lt.2 hlen), htype]

theorem load_badCodes {ty : CartType} (hlen : 0x0150 ≤ image.len) (htype : cartTypeOf (Store.read image.bytes 0x0147) = some ty)
    (hcodes : ¬ CodesOk image) : load image save = .refused .loadMalformed := by
  have hbad : 8 < (cartOf image ty).romCode ∨ 5 < (cartOf image ty).ramCode :=
    (not_and_or.1 hcodes).imp Nat.lt_of_not_le Nat.lt_of_not_le
  simp only [load, if_neg (Nat.not_lt.2 hlen), htype, if_pos hbad]

theorem load_next {ty : CartType} (hlen : 0x0150 ≤ image.len) (htype : cartTypeOf (Store.read image.bytes 0x0147) = some ty)
    (hcodes : CodesOk image) : load image save = .next (State.ofCart (restoreSave save (cartOf image ty))) := by
  have hgood : ¬ (8 < (cartOf image ty).romCode ∨ 5 < (cartOf image ty).ramCode) :=
    fun h => h.elim (Nat.not_lt.2 hcodes.1) (Nat.not_lt.2 hcodes.2)
  simp only [load, if_neg (Nat.not_lt.2 hlen), htype, if_neg hgood]

/-- A machine that a load answers is the one after reset with the cartridge of a supported type in it. -/
theorem load_next_inv {s : State} (h : load image save = .next s) :
    ∃ type ty, cartTypeOf type = some ty ∧ s = State.ofCart (restoreSave save (cartOf image ty)) := by
  unfold load at h
  split at h
  · cases h
  · split at h
    · cases h
    · dsimp only at h
      split at h
      · cases h
      · exact ⟨_, _, ‹_›, (Host.Outcome.next.inj h).symm⟩

/-- Without an MBC the ROM area shows the image, which no size code makes smaller than the area (R471, R475). -/
theorem busRead_ofCart_mbc0_rom {k : Cart} (hk : k.mbc = .mbc0) {x : Word} (hx : x.toNat < 0x8000) :
    busRead x (State.ofCart k) = if x.toNat < k.romLen then Store.read k.rom x.toNat else 0xFF := by
  have hoff : romOffset k.mbc x.toNat = x.toNat := by
    rw [hk]
    exact ite_self x.toNat
  have hsize : x.toNat < romSize k := Nat.lt_of_lt_of_le hx (Nat.le_mul_of_pos_right 32768 (Nat.two_pow_pos k.romCode))
  rw [busRead_cart (.inl (regionOf_eq (Nat.zero_le _) hx))]
  show cartRead k x.toNat = _
  rw [cartRead, if_pos hx, hoff, romByte]
  simp only [hsize, true_and]

theorem busRead_ofCart_mbc0_ram {k : Cart} (hk : k.mbc = .mbc0) (hcram : k.cram = []) {x : Word} (hlo : 0xA000 ≤ x.toNat)
    (hhi : x.toNat < 0xC000) : busRead x (State.ofCart k) = 0 := by
  rw [busRead_cart (.inr (regionOf_eq hlo hhi))]
  refine (cartRead_mbc0 k hk (Nat.le_trans (by decide) hlo)).trans ?_
  rw [hcram]
  rfl

end Load

end Sys2Proof.Machine

/-! ## The claims -/

namespace Sys2Proof

open Machine

/-- Settles O1: each register is its reset value; the arrays are empty (`busRead_ofCart_array`). -/
theorem resetValues : Obligations.ResetValues := by
  rintro k s rfl
  obtain ⟨haf, hbc, hde, hhl⟩ := reset_pairs
  refine ⟨⟨haf, hbc, hde, hhl, rfl, rfl⟩, ⟨rfl, rfl, rfl, rfl, rfl, rfl⟩, ⟨rfl, rfl, rfl⟩, fun p hp => ?registers,
    fun x hx => ?arrays⟩
  case registers => fin_cases hp <;> exact (busRead_ofCart_eq_reset k (by decide) (by decide)).trans (by decide)
  case arrays =>
    apply busRead_ofCart_array
    all_goals
      intro hr
      have hb := regionOf_bounds hr
      simp only [Region.first, Region.limit] at hb
      omega

/-- Settles O2: the blank cartridge is a good one (`ofCart_inv`). -/
theorem invariantHoldsAtReset : Obligations.InvariantHoldsAtReset := ⟨ofCart_inv blank_ok, ppuReset_onTime⟩

/-- Settles O3: a load builds a good cartridge (`cartOf_ok`), and restoring the save keeps it good and its image as it is. -/
theorem loadBuildsAGoodMachine : Obligations.LoadBuildsAGoodMachine := by
  intro image save himage s hload
  obtain ⟨type, ty, htype, rfl⟩ := load_next_inv hload
  obtain ⟨hrom, hlen⟩ := restoreSave_rom (cartOf image ty) save
  exact ⟨ofCart_inv (restoreSave_ok (cartOf_ok himage (cartTypeOf_mbcOk htype)) save), ppuReset_onTime, hrom, hlen⟩

/-- Settles O4: the three checks in their order; an MBC0 machine reads its image and an empty RAM. -/
theorem loadOutcomes : Obligations.LoadOutcomes := by
  intro image save type codesOk known
  have hknown (h : known) : ∃ ty, cartTypeOf type = some ty := Option.isSome_iff_exists.1 ((cartTypeOf_isSome_iff type).2 h)
  refine ⟨load_short, fun hlen hunknown => ?unsupported, fun hlen hk hcodes => ?badCodes, fun hlen hk hcodes => ?loads⟩
  case unsupported =>
    exact load_unsupported hlen (Option.not_isSome_iff_eq_none.1 (mt (cartTypeOf_isSome_iff type).1 hunknown))
  case badCodes =>
    obtain ⟨ty, hty⟩ := hknown hk
    exact load_badCodes hlen hty hcodes
  case loads =>
    obtain ⟨ty, hty⟩ := hknown hk
    refine ⟨_, load_next hlen hty hcodes, ?_⟩
    rintro hmbc0 rfl x
    have hmbc : (cartOf image ty).mbc = .mbc0 := cartTypeOf_mbc0 type hmbc0 ty hty
    exact ⟨busRead_ofCart_mbc0_rom hmbc, fun h => busRead_ofCart_mbc0_ram hmbc rfl h.1 h.2⟩

/-- Settles O14: no CPU step writes the image (`step_devices_kept`), and the devices do not touch the cartridge. -/
theorem nothingWritesRom : Obligations.NothingWritesRom := by
  refine ⟨fun s => ?step, fun s => ?reset⟩
  case step =>
    obtain ⟨t, e, hkept⟩ := step_devices_kept s
    have hcart : (devices t).cart = t.cart := by rw [devices_eq]
    exact ⟨_, e, hcart ▸ congrArg (·.2.1) hkept, hcart ▸ congrArg (·.2.2) hkept⟩
  case reset =>
    show { s.cart with mbc := Mbc.reset s.cart.mbc } = _
    cases s.cart.mbc <;> rfl

end Sys2Proof
end

section
/-! The cartridge's bank registers and windows (63_cartridge_mbc.md R471 to R502, R510): what a write below 0x8000 does on each MBC, and
what the ROM and RAM windows show and store: O58. -/

namespace Sys2Proof.Machine

/-! ## The fields of a byte (R474) -/

theorem enablesRam_eq : ∀ v : Byte, enablesRam v = decide (v.toNat % 16 = 0xA) := by decide

theorem extract_low (w : Nat) (v : Byte) : v.extractLsb' 0 w = BitVec.ofNat w v.toNat := rfl

/-- A bank number of 0, after the mask, is 1. -/
theorem remapZero_extract (w : Nat) (v : Byte) :
    remapZero (v.extractLsb' 0 w) = BitVec.ofNat w (if v.toNat % 2 ^ w = 0 then 1 else v.toNat % 2 ^ w) := by
  have hzero : v.extractLsb' 0 w = 0 ↔ v.toNat % 2 ^ w = 0 := by
    rw [extract_low, ← BitVec.toNat_inj, BitVec.toNat_ofNat]
    simp
  unfold remapZero
  by_cases h : v.toNat % 2 ^ w = 0
  · rw [if_pos (hzero.2 h), if_pos h]
    rfl
  · rw [if_neg (mt hzero.1 h), if_neg h, extract_low]
    exact BitVec.eq_of_toNat_eq (by simp)

/-! ## Writes to the ROM area -/

section RomArea

variable {s : State} {a : Word} {v : Byte}

/-- The machine with other MBC registers. -/
def State.withMbc (m : Mbc) (s : State) : State := { s with cart := { s.cart with mbc := m } }

theorem busWrite_romArea (ha : a.toNat < 0x8000) :
    busWrite a v s = applyCart (romAreaWrite (Config.hostClockSeconds s.clockDraws) s.cart a.toNat v) s := by
  rw [busWrite_cart (.inl (regionOf_eq (Nat.zero_le _) ha)), cartWriteBus, cartWrite, if_pos ha]

theorem busWrite_romArea_mbc0 (hk : s.cart.mbc = .mbc0) (ha : a.toNat < 0x8000) : busWrite a v s = s := by
  rw [busWrite_romArea ha, romAreaWrite, hk]
  rfl

theorem busWrite_romArea_mbc1 {r : Mbc1} (hk : s.cart.mbc = .mbc1 r) (ha : a.toNat < 0x8000) :
    busWrite a v s = s.withMbc (.mbc1 (mbc1Write a.toNat v r)) := by
  rw [busWrite_romArea ha, romAreaWrite, hk]
  rfl

theorem busWrite_romArea_mbc2 {r : Mbc2} (hk : s.cart.mbc = .mbc2 r) (ha : a.toNat < 0x8000) :
    busWrite a v s = s.withMbc (.mbc2 (mbc2Write a.toNat v r)) := by
  rw [busWrite_romArea ha, romAreaWrite, hk]
  rfl

/-- Only a write that draws the host's clock changes more than the registers: the count of draws. -/
theorem busWrite_romArea_mbc3 {r : Mbc3} (hk : s.cart.mbc = .mbc3 r) (ha : a.toNat < 0x8000) :
    busWrite a v s =
      { s.withMbc (.mbc3 (mbc3Write s.cart.timer (Config.hostClockSeconds s.clockDraws) a.toNat v r)) with
        clockDraws := if mbc3Draws s.cart.timer a.toNat v r then s.clockDraws + 1 else s.clockDraws } := by
  rw [busWrite_romArea ha, romAreaWrite, hk]
  rfl

theorem mbc3Draws_of_lt (timer : Bool) {n : Nat} (r : Mbc3) (h : n < 0x6000) : mbc3Draws timer n v r = false := by
  rw [mbc3Draws, decide_eq_false (Nat.not_le.2 h), Bool.false_and]

/-- Registers as they were are no change. -/
theorem withMbc_self {m : Mbc} (h : s.cart.mbc = m) : s.withMbc m = s := by
  subst h
  rfl

/-! ### The latch (R500, R502) -/

theorem latches_iff (timer : Bool) (r : Mbc3) : latches timer v r = true ↔ timer = true ∧ r.latchPrev = 0x00 ∧ v = 0x01 := by
  simp [latches]

theorem mbc3Write_last (timer : Bool) (now : Nat) {n : Nat} (r : Mbc3) (hn : 0x6000 ≤ n) : mbc3Write timer now n v r =
    { r with rtc := if latches timer v r then rtcLatch now r.rtc else r.rtc, latchPrev := v } := by
  rw [mbc3Write, if_neg (by omega), if_neg (by omega), if_neg (by omega)]

theorem mbc3Draws_last (timer : Bool) {n : Nat} (r : Mbc3) (hn : 0x6000 ≤ n) :
    mbc3Draws timer n v r = (latches timer v r && rtcDraws r.rtc) := by
  rw [mbc3Draws, decide_eq_true hn, Bool.true_and]

/-- Without a latch, and with one on a halted clock, the clock registers stay and nothing is drawn. -/
theorem mbc3Write_keepsClock (timer : Bool) (now : Nat) {n : Nat} (r : Mbc3) (hn : 0x6000 ≤ n)
    (h : ¬ (timer = true ∧ r.latchPrev = 0x00 ∧ v = 0x01 ∧ r.rtc.dh.getLsbD 6 = false)) :
    mbc3Write timer now n v r = { r with latchPrev := v } ∧ mbc3Draws timer n v r = false := by
  rw [mbc3Write_last timer now r hn, mbc3Draws_last timer r hn]
  cases hl : latches timer v r
  case false => exact ⟨rfl, rfl⟩
  case true =>
    obtain ⟨htimer, hprev, hv⟩ := (latches_iff timer r).1 hl
    have hhalt : r.rtc.dh.getLsbD 6 = true := Bool.eq_true_of_not_eq_false fun hrun => h ⟨htimer, hprev, hv, hrun⟩
    rw [rtcLatch, rtcDraws, hhalt]
    exact ⟨rfl, rfl⟩

theorem mbc3Write_latches (timer : Bool) (now : Nat) {n : Nat} (r : Mbc3) (hn : 0x6000 ≤ n) (h : latches timer v r = true)
    (hrun : r.rtc.dh.getLsbD 6 = false) :
    mbc3Write timer now n v r = { r with latchPrev := v, rtc := rtcLatch now r.rtc } ∧ mbc3Draws timer n v r = true := by
  rw [mbc3Write_last timer now r hn, mbc3Draws_last timer r hn, h, rtcDraws, hrun]
  exact ⟨rfl, rfl⟩

/-- The day counter's high byte: its bit 8, and the carry kept or set (R502). -/
theorem dayHigh_toNat : ∀ (dh : Byte) (overflow : Bool), ∀ bit8 < 2, dh.getLsbD 6 = false →
    ((dh &&& 0xC0) ||| BitVec.ofNat 8 bit8 ||| (if overflow = true then 0x80 else 0x00)).toNat =
      128 * (dh.getLsbD 7 || overflow).toNat + bit8 := by decide

/-- A latch captures the time as seconds, minutes, hours and a day counter of nine bits with a carry (R502). -/
theorem rtcLatch_toNat (now : Nat) {r : Rtc} (hrun : r.dh.getLsbD 6 = false) :
    (rtcLatch now r).s.toNat = now % 60 ∧ (rtcLatch now r).m.toNat = now / 60 % 60 ∧ (rtcLatch now r).h.toNat = now / 3600 % 24 ∧
    (rtcLatch now r).dl.toNat = now / 86400 % 256 ∧
    (rtcLatch now r).dh.toNat = 128 * (r.dh.getLsbD 7 || decide (512 ≤ now / 86400)).toNat + now / 86400 / 256 % 2 := by
  have hhigh := dayHigh_toNat r.dh (decide (512 ≤ now / 86400)) (now / 86400 / 256 % 2) (Nat.mod_lt _ (by decide)) hrun
  rw [rtcLatch, hrun, if_neg Bool.false_ne_true]
  dsimp only
  simp only [BitVec.toNat_ofNat]
  simp only [decide_eq_true_eq] at hhigh
  exact ⟨by omega, by omega, by omega, by omega, hhigh⟩

end RomArea

/-! ## The ROM window (R471) -/

section Windows

variable {s : State} {x : Word}

theorem busRead_romWindow {off : Nat} (hx : x.toNat < 0x8000) (hoff : romOffset s.cart.mbc x.toNat = off) : ReadsImage x off s := by
  unfold ReadsImage
  rw [busRead_cart (.inl (regionOf_eq (Nat.zero_le _) hx)), cartRead, if_pos hx, hoff]
  rfl

theorem romOffset_fixed (m : Mbc) {n : Nat} (hn : n < 0x4000) : romOffset m n = n := if_pos hn

/-- From 0x4000 on the selected bank of 16 KiB is read (R475, R481, R490, R500). -/
theorem romOffset_bank (m : Mbc) {n : Nat} (hn : 0x4000 ≤ n) : romOffset m n = 0x4000 * romBank m + (n - 0x4000) := by
  unfold romOffset
  rw [if_neg (Nat.not_lt.2 hn)]
  cases m
  case mbc0 => simp only [romBank]; omega
  case mbc1 r =>
    have hor : ((if r.mode = 0 then r.sec.toNat * 32 else 0) ||| r.bank5.toNat) =
        (if r.mode = 0 then 32 * r.sec.toNat else 0) + r.bank5.toNat := by
      split
      · rw [Nat.mul_comm]
        exact (Nat.two_pow_add_eq_or_of_lt (i := 5) r.bank5.isLt r.sec.toNat).symm
      · rw [Nat.zero_or, Nat.zero_add]
    simp only [romBank, hor]
  case mbc2 | mbc3 => rfl

/-! ## The RAM window (R475, R482, R490, R501) -/

theorem ramSizeOfCode_eq (code : Nat) : ramSizeOfCode code = [0, 0, 8192, 32768, 131072, 65536].getD code 0 := by
  match code with
  | 0 | 1 | 2 | 3 | 4 | 5 => rfl
  | n + 6 => rfl

/-- An address of the RAM window. -/
def InRamWindow (x : Word) : Prop := 0xA000 ≤ x.toNat ∧ x.toNat < 0xC000

section RamWindow

variable (hx : InRamWindow x)

include hx

theorem busRead_ramWindow : busRead x s = cartRead s.cart x.toNat := busRead_cart (.inr (regionOf_eq hx.1 hx.2))

theorem busWrite_ramWindow (v : Byte) :
    busWrite x v s = applyCart (cartWrite (Config.hostClockSeconds s.clockDraws) s.cart x.toNat v) s :=
  busWrite_cart (.inr (regionOf_eq hx.1 hx.2))

/-- An address that names a cell of cartridge RAM reads and stores it, through the MBC's masks. -/
theorem ramWindow_cell {off : Nat} (hcell : cramCell s.cart (x.toNat - 0xA000) = some off) :
    busRead x s = cramReadMask s.cart.mbc (Store.read s.cart.cram off) ∧
    ∀ v, busWrite x v s = storedCell off (cramWriteMask s.cart.mbc v) s := by
  have hge : ¬ x.toNat < 0x8000 := Nat.not_lt.2 (Nat.le_trans (by decide) hx.1)
  constructor
  · simp only [busRead_ramWindow hx, cartRead, if_neg hge, hcell]
  · intro v
    simp only [busWrite_ramWindow hx, cartWrite, if_neg hge, hcell]
    rfl

theorem windowCell {off : Nat} (hcell : cramCell s.cart (x.toNat - 0xA000) = some off) (hmbc : ∀ r, s.cart.mbc ≠ .mbc2 r) :
    WindowCell x off s := by
  have h := ramWindow_cell hx hcell
  cases hk : s.cart.mbc
  case mbc2 r => exact absurd hk (hmbc r)
  all_goals rwa [hk] at h

theorem windowNibble {off : Nat} {r : Mbc2} (hcell : cramCell s.cart (x.toNat - 0xA000) = some off) (hmbc : s.cart.mbc = .mbc2 r) :
    WindowNibble x off s := by
  have h := ramWindow_cell hx hcell
  rwa [hmbc] at h

theorem windowEmpty (hcell : cramCell s.cart (x.toNat - 0xA000) = none) (hclock : rtcSelected s.cart = none) : WindowEmpty x s := by
  have hge : ¬ x.toNat < 0x8000 := Nat.not_lt.2 (Nat.le_trans (by decide) hx.1)
  constructor
  · simp only [busRead_ramWindow hx, cartRead, if_neg hge, hcell, hclock]
  · intro v
    simp only [busWrite_ramWindow hx, cartWrite, if_neg hge, hcell, hclock]
    rfl

theorem windowClock {r : Mbc3} {g : RtcReg} (hmbc : s.cart.mbc = .mbc3 r) (hcell : cramCell s.cart (x.toNat - 0xA000) = none)
    (hclock : rtcSelected s.cart = some g) : WindowClock x (rtcRead g r.rtc) (fun v => { r with rtc := rtcWrite g v r.rtc }) s := by
  have hge : ¬ x.toNat < 0x8000 := Nat.not_lt.2 (Nat.le_trans (by decide) hx.1)
  constructor
  · simp only [busRead_ramWindow hx, cartRead, if_neg hge, hcell, hclock, rtcOf, hmbc]
  · intro v
    simp only [busWrite_ramWindow hx, cartWrite, if_neg hge, hcell, hclock, rtcAreaWrite, hmbc]
    rfl

end RamWindow

/-! ### What the registers select -/

section Selects

variable {k : Cart}

theorem rtcSelected_of_not_mbc3 (h : ∀ r, k.mbc ≠ .mbc3 r) : rtcSelected k = none := by
  unfold rtcSelected
  split
  · exact absurd ‹_› (h _)
  · rfl

/-- The select code of a clock register (R501). -/
def rtcCode : RtcReg → BitVec 4
  | .s => 0x8 | .m => 0x9 | .h => 0xA | .dl => 0xB | .dh => 0xC

theorem rtcSelected_eq_some {r : Mbc3} {g : RtcReg} (hk : k.mbc = .mbc3 r) (hon : r.ramEnable = true) (htimer : k.timer = true)
    (hsel : r.sel = rtcCode g) : rtcSelected k = some g := by
  simp only [rtcSelected, hk, hon, htimer, hsel, and_self, if_true]
  cases g <;> rfl

/-- With RAM disabled, a select code that names no clock register, or no clock in the cartridge, the window shows none. -/
theorem rtcSelected_eq_none {r : Mbc3} (hk : k.mbc = .mbc3 r)
    (h : r.ramEnable = false ∨ r.sel.toNat < 8 ∨ 12 < r.sel.toNat ∨ k.timer = false) : rtcSelected k = none := by
  unfold rtcSelected
  rw [hk]
  dsimp only
  split
  · rename_i hon
    have hsel : r.sel.toNat < 8 ∨ 12 < r.sel.toNat := by simpa [hon] using h
    split
    case h_6 => rfl
    all_goals omega
  · rfl

theorem cramCell_mbc3 {r : Mbc3} (hk : k.mbc = .mbc3 r) (o : Nat) : cramCell k o =
    if r.ramEnable = true ∧ r.sel.toNat < 4 ∧ 0x2000 * r.sel.toNat + o < ramSizeOfCode k.ramCode then
      some (0x2000 * r.sel.toNat + o) else none := by
  simp only [cramCell, ramSize, hk]

theorem cramCell_mbc1 {r : Mbc1} (hk : k.mbc = .mbc1 r) (o : Nat) : cramCell k o =
    if r.ramEnable = true ∧ mbc1RamOffset r o < ramSizeOfCode k.ramCode then some (mbc1RamOffset r o) else none := by
  simp only [cramCell, ramSize, hk]

end Selects

/-! ### The window of each MBC -/

section Mbcs

variable (hx : InRamWindow x)

include hx

theorem ramWindow_mbc1 {r : Mbc1} (hk : s.cart.mbc = .mbc1 r) {off : Nat} (hoff : off = mbc1RamOffset r (x.toNat - 0xA000)) :
    if r.ramEnable = true ∧ off < ramSizeOfCode s.cart.ramCode then WindowCell x off s else WindowEmpty x s := by
  have hcell := cramCell_mbc1 hk (x.toNat - 0xA000)
  rw [← hoff] at hcell
  split
  · exact windowCell hx (hcell.trans (if_pos ‹_›)) (by simp [hk])
  · exact windowEmpty hx (hcell.trans (if_neg ‹_›)) (rtcSelected_of_not_mbc3 (by simp [hk]))

theorem ramWindow_mbc2 {r : Mbc2} (hk : s.cart.mbc = .mbc2 r) :
    if r.ramEnable = true then WindowNibble x ((x.toNat - 0xA000) % 512) s else WindowEmpty x s := by
  have hcell : cramCell s.cart (x.toNat - 0xA000) = if r.ramEnable then some ((x.toNat - 0xA000) % 512) else none := by
    simp only [cramCell, hk]
  split
  · exact windowNibble hx (hcell.trans (if_pos ‹_›)) hk
  · exact windowEmpty hx (hcell.trans (if_neg ‹_›)) (rtcSelected_of_not_mbc3 (by simp [hk]))

/-- With a select code below 4, MBC3 shows RAM. -/
theorem ramWindow_mbc3_ram {r : Mbc3} (hk : s.cart.mbc = .mbc3 r) (hon : r.ramEnable = true) (hsel : r.sel.toNat < 4) {off : Nat}
    (hoff : off = 0x2000 * r.sel.toNat + (x.toNat - 0xA000)) :
    if off < ramSizeOfCode s.cart.ramCode then WindowCell x off s else WindowEmpty x s := by
  have hcell := cramCell_mbc3 hk (x.toNat - 0xA000)
  rw [← hoff] at hcell
  split
  · exact windowCell hx (hcell.trans (if_pos ⟨hon, hsel, ‹_›⟩)) (by simp [hk])
  · exact windowEmpty hx (hcell.trans (if_neg fun h => absurd h.2.2 ‹_›)) (rtcSelected_eq_none hk (.inr (.inl (by omega))))

/-- With RAM disabled, or a select code that names neither RAM nor a clock register, MBC3 shows nothing. -/
theorem ramWindow_mbc3_empty {r : Mbc3} (hk : s.cart.mbc = .mbc3 r) (hram : ¬ (r.ramEnable = true ∧ r.sel.toNat < 4))
    (hclock : r.ramEnable = false ∨ r.sel.toNat < 8 ∨ 12 < r.sel.toNat ∨ s.cart.timer = false) : WindowEmpty x s :=
  windowEmpty hx ((cramCell_mbc3 hk _).trans (if_neg fun h => hram ⟨h.1, h.2.1⟩)) (rtcSelected_eq_none hk hclock)

theorem ramWindow_mbc3_clock {r : Mbc3} {g : RtcReg} (hk : s.cart.mbc = .mbc3 r) (hon : r.ramEnable = true)
    (htimer : s.cart.timer = true) (hsel : r.sel = rtcCode g) :
    WindowClock x (rtcRead g r.rtc) (fun v => { r with rtc := rtcWrite g v r.rtc }) s := by
  have hfour : ¬ r.sel.toNat < 4 := by
    rw [hsel]
    cases g <;> decide
  exact windowClock hx hk ((cramCell_mbc3 hk _).trans (if_neg (by simp [hfour]))) (rtcSelected_eq_some hk hon htimer hsel)

end Mbcs

end Windows

end Sys2Proof.Machine

/-! ## The claim -/

namespace Sys2Proof

open Machine

/-- Settles O58: below 0x8000 a write sets the MBC's registers (`busWrite_romArea`), a latch the clock's (`rtcLatch_toNat`); a
window's address names what the registers select (`romOffset_bank`, `cramCell`, `rtcSelected`). -/
theorem bankRegisterWrites : Obligations.BankRegisterWrites := by
  refine ⟨?registers, ?windows⟩
  case registers =>
    rintro s a v t ha rfl k rfl
    refine ⟨fun hk => busWrite_romArea_mbc0 hk ha, fun r hk => ?mbc1, fun r hk => ?mbc2, fun r hk => ?mbc3⟩
    case mbc1 =>
      rw [busWrite_romArea_mbc1 hk ha, mbc1Write]
      refine ⟨fun h => ?_, fun h h' => ?_, fun h h' => ?_, fun h => ?_⟩
      · rw [if_pos h, enablesRam_eq]
        rfl
      · rw [if_neg (by omega), if_pos h', remapZero_extract]
        rfl
      · rw [if_neg (by omega), if_neg (by omega), if_pos h', extract_low]
        rfl
      · rw [if_neg (by omega), if_neg (by omega), if_neg (by omega), extract_low]
        rfl
    case mbc2 =>
      rw [busWrite_romArea_mbc2 hk ha, mbc2Write]
      refine ⟨fun h hbit => ?_, fun h hbit => ?_, fun h => ?_⟩
      · rw [if_pos h, show a.toNat.testBit 8 = false from hbit, if_neg Bool.false_ne_true, enablesRam_eq]
        rfl
      · rw [if_pos h, show a.toNat.testBit 8 = true from hbit, if_pos rfl, remapZero_extract]
        rfl
      · rw [if_neg (Nat.not_lt.2 h)]
        exact withMbc_self hk
    case mbc3 =>
      rw [busWrite_romArea_mbc3 hk ha]
      refine ⟨fun h => ?_, fun h h' => ?_, fun h h' => ?_, fun h => ⟨fun hstays => ?_, ?latch⟩⟩
      · rw [mbc3Draws_of_lt _ r (by omega), mbc3Write, if_pos h, enablesRam_eq]
        rfl
      · rw [mbc3Draws_of_lt _ r (by omega), mbc3Write, if_neg (by omega), if_pos h', remapZero_extract]
        rfl
      · rw [mbc3Draws_of_lt _ r h', mbc3Write, if_neg (by omega), if_neg (by omega), if_pos h', extract_low]
        rfl
      · obtain ⟨hwrite, hdraws⟩ := mbc3Write_keepsClock _ (Config.hostClockSeconds s.clockDraws) r h hstays
        rw [hwrite, hdraws]
        rfl
      case latch =>
        rintro htimer hprev hv hrun now rfl
        obtain ⟨hwrite, hdraws⟩ := mbc3Write_latches _ (Config.hostClockSeconds s.clockDraws) r h
          ((latches_iff _ r).2 ⟨htimer, hprev, hv⟩) hrun
        rw [hwrite, hdraws]
        exact ⟨_, rfl, rtcLatch_toNat _ hrun⟩
  case windows =>
    rintro s x k rfl
    refine ⟨fun h => busRead_romWindow (by omega) (romOffset_fixed _ h), fun h h' => busRead_romWindow h' (romOffset_bank _ h), ?ram⟩
    intro hlo hhi o size ho hsize
    have hx : InRamWindow x := ⟨hlo, hhi⟩
    rw [ho, hsize, ← ramSizeOfCode_eq]
    refine ⟨fun hk => ?mbc0, fun r hk off hoff => ramWindow_mbc1 hx hk hoff, fun r hk => ramWindow_mbc2 hx hk, fun r hk => ?mbc3⟩
    case mbc0 => exact windowCell hx (by simp only [cramCell, hk]) (by simp [hk])
    case mbc3 =>
      refine ⟨fun hoff => ramWindow_mbc3_empty hx hk (by simp [hoff]) (.inl hoff),
        fun hon hsel off hoff => ramWindow_mbc3_ram hx hk hon hsel hoff,
        fun hon hsel hnone => ramWindow_mbc3_empty hx hk (by omega) (.inr hnone), fun hon htimer => ?clock⟩
      have hclock (g : RtcReg) := ramWindow_mbc3_clock (g := g) hx hk hon htimer
      exact ⟨hclock .s, hclock .m, hclock .h, hclock .dl, hclock .dh⟩

end Sys2Proof
end
